-- ==== Sys2Proof/Word.lean ====
section
/-! DEFINITION. Bytes and the value types of ZCC-PE (spec/00_scope.md R8, R11 to R13; spec/10_state.md
R37 to R39). Types only: everything that computes on them stands in files that a repair can mend. -/

namespace Sys2Proof

/-- R8: a byte is an unsigned 8-bit value, bit 0 the least significant. -/
abbrev Byte := BitVec 8

/-- R37, R71: a subsystem is the 5-bit field cmd0[4:0]. -/
abbrev Subsystem := BitVec 5

/-- R13, R73: the four defined command types. -/
inductive CmdType where
  | poll
  | sreq
  | areq
  | srsp
deriving DecidableEq, Repr

/-- R11: an 8-byte identifier, its bytes in textual order (`t0` is written first). -/
structure Eui where
  t0 : Byte
  t1 : Byte
  t2 : Byte
  t3 : Byte
  t4 : Byte
  t5 : Byte
  t6 : Byte
  t7 : Byte
deriving DecidableEq, Repr

mutual
/-- R11: a value that the Parameter Codec reads or writes and that a payload carries. -/
inductive Value where
  /-- An integer of a fixed-width integer tag. -/
  | int (n : Int)
  /-- A 16-bit value tagged as a network address. -/
  | nwk (n : BitVec 16)
  /-- An 8-byte device identifier. -/
  | eui (t : Eui)
  /-- A byte sequence. -/
  | bytes (s : List Byte)
  /-- A finite sequence of values (R11 `List`). -/
  | list (vs : Values)
  /-- A finite map from field names to values (R11 `Rec`). -/
  | record (m : Fields)
deriving DecidableEq, Repr

/-- A finite sequence of values. -/
inductive Values where
  | nil
  | cons (v : Value) (vs : Values)
deriving DecidableEq, Repr

/-- R11: a finite map from field names to values, which is also what a payload is. Its one canonical
form has strictly rising names (`Fields.wf`), so that equal maps are equal data. -/
inductive Fields where
  | nil
  | cons (k : String) (v : Value) (m : Fields)
deriving DecidableEq, Repr
end

/-- R82: the 21 type tags of the Parameter Codec, in the order of their numbers. -/
inductive Tag where
  | uint8
  | uint16
  | uint32
  | ieeeaddr
  | buffer
  | buffer8
  | buffer16
  | buffer18
  | buffer32
  | buffer42
  | buffer100
  | listUint8
  | listUint16
  | listRoutingTable
  | listBindTable
  | listNeighborLqi
  | listNetwork
  | listAssocDev
  | int8
  | int16
  | int32
deriving DecidableEq, Repr

/-- R39: one field of a schema. `typeTag` is a tag number, so that a schema can also hold a tag that has
no rule (R83). -/
structure ParameterSpec where
  name : String
  typeTag : Nat
  derivesLengthFrom : Option String
  isAddress : Bool
deriving DecidableEq, Repr

/-- R39: an ordered list of fields. -/
abbrev Schema := List ParameterSpec

/-- R39, R200: one entry of the Command Table. -/
structure CommandSpec where
  subsystem : Subsystem
  wireId : Byte
  name : String
  direction : CmdType
  requestSchema : Schema
  responseSchema : Schema
deriving DecidableEq, Repr

/-- R37: a frame as a value, with its stored length and checksum fields. -/
structure Frame where
  commandType : BitVec 3
  subsystem : Subsystem
  commandId : Byte
  payload : List Byte
  length : Byte
  checksum : Byte
deriving DecidableEq, Repr

/-- R38: a command object as a value. R38 calls `correlation_tag` optional and gives it no type; that it is a natural number is the model's
choice (notes/assumptions/32). -/
structure CommandObject where
  commandType : CmdType
  subsystem : Subsystem
  name : String
  wireId : Byte
  payload : Fields
  schemaUsed : Schema
  correlationTag : Option Nat
deriving DecidableEq, Repr

/-- R80, R131: the options of a parameter read. -/
structure ReadOpts where
  length : Option Nat
  startIndex : Option Nat
  isAddress : Bool
deriving DecidableEq, Repr

end Sys2Proof
end

