-- ==== Sys2Proof/Config.lean ====
section
/-! DEFINITION. The construction parameters of ZCC-PE (spec/00_scope.md R7, spec/10_state.md R30 to R32), their
defaults, and the values the spec leaves open: each open value is a constant without a body, so that no proof
can know what it is (notes/assumptions 6 to 10). -/

namespace Sys2Proof

/-- R134: one named bit field `hi:lo` of a packed byte. -/
structure BitField where
  name : String
  hi : Nat
  lo : Nat
deriving DecidableEq, Repr

/-- R134: one item of a record layout. -/
inductive LayoutItem where
  | u8 (name : String)
  | u16 (name : String)
  | eui (name : String)
  | packed (fields : List BitField)
deriving DecidableEq, Repr

/-- R134: the layout of one element of a record list. -/
abbrev Layout := List LayoutItem

/-- R7, R105, R106: what RX does with a leading byte that is not the marker. -/
inductive ResyncMode where
  | discardAll
  | scanForward
deriving DecidableEq, Repr

/-- R7, R112: how many frames one RX_PUSH extracts. -/
inductive DrainMode where
  | single
  | loop
deriving DecidableEq, Repr

/-- R7, R262: which held request the gate admits next. `any` is the spec's default (any one of them, a free
choice); `oldest` is the one alternative the model names (notes/assumptions/9). -/
inductive GateOrder where
  | any
  | oldest
deriving DecidableEq, Repr

/-- R7, R139: the element count of an association-device list: the default `max(0, length - start_index)`, or
another function, the `k`-th uninterpreted one (notes/assumptions/10). -/
inductive AssocCount where
  | lengthMinusStart
  | other (k : Nat)
deriving DecidableEq, Repr

/-- R7, R30: the record of construction parameters. No operation writes it. `MARKER` is not among them: it is fixed. -/
structure Config where
  minFrameLen : Nat
  resyncMode : ResyncMode
  drainMode : DrainMode
  /-- `RXBUF_CAP`; `none` is unbounded. -/
  rxbufCap : Option Nat
  /-- `WAITER_CAP`; `none` is unbounded. -/
  waiterCap : Option Nat
  tSreq : Nat
  tLong : Nat
  longRunning : List (Subsystem × String)
  tReset : Nat
  tDefault : Nat
  failOnDisconnect : Bool
  zdoProfile : BitVec 16
  afOptions : Byte
  afRadius : Byte
  /-- `IS_BCAST_PERMIT_JOIN` as the finite set of `(dst, cluster)` for which it is true. -/
  bcastPermitJoin : List (BitVec 16 × BitVec 16)
  pjAddrMode : Byte
  gateOrder : GateOrder
  layoutRouting : Layout
  layoutBind : Layout
  layoutNetwork : Layout
  layoutNeighbor : Layout
  assocCount : AssocCount
deriving DecidableEq, Repr

/-! The open values (R7 `OPEN`): uninterpreted. -/

/-- By how much `T_LONG` exceeds `T_SREQ`, less one (D26: the source's only constraint is `T_LONG > T_SREQ`). -/
opaque Config.openTLongExtra : Nat
/-- `LONG_RUNNING` (R7, OPEN). -/
opaque Config.openLongRunning : List (Subsystem × String)
/-- `IS_BCAST_PERMIT_JOIN` (R212, OPEN). -/
opaque Config.openBcastPermitJoin : List (BitVec 16 × BitVec 16)
/-- `PJ_ADDR_MODE` (R212, OPEN). -/
opaque Config.openPjAddrMode : Byte
/-- `HANDLERS` (R32, OPEN). -/
opaque Config.openHandlers : List String
/-- A free layout, from which `LAYOUT_NEIGHBOR` (R138, OPEN) is taken when it conforms. -/
opaque Config.openLayoutNeighbor : Layout
/-- The uninterpreted alternatives of `ASSOC_COUNT` (R139): kind, length, start index. -/
opaque Config.otherAssocCount : Nat → Nat → Nat → Nat
/-- The free choice `GATE_ORDER` leaves (R262, "any one"): the `n`-th number drawn. -/
opaque Config.freeChoice : Nat → Nat

/-! Record layouts (R135 to R138). -/

/-- R135: the default `LAYOUT_ROUTING` (5 bytes). -/
def Config.defaultLayoutRouting : Layout :=
  [.u16 "destNwkAddr", .u8 "routeStatus", .u16 "nextHopNwkAddr"]

/-- R136: the default `LAYOUT_BIND` (21 bytes). -/
def Config.defaultLayoutBind : Layout :=
  [.eui "srcAddr", .u8 "srcEp", .u16 "clusterId", .u8 "dstAddrMode", .eui "dstAddr", .u8 "dstEp"]

/-- R137: the default `LAYOUT_NETWORK` (6 bytes). -/
def Config.defaultLayoutNetwork : Layout :=
  [.u16 "neightborPanId", .u8 "logicalChannel",
   .packed [⟨"stackProfile", 3, 0⟩, ⟨"zigbeeVersion", 7, 4⟩],
   .packed [⟨"beaconOrder", 3, 0⟩, ⟨"superFrameOrder", 7, 4⟩],
   .u8 "permitJoin"]

/-- R138: the nine fields of a neighbor-table record, in the source's order. -/
def Config.neighborFields : List String :=
  ["extPanId", "extAddr", "nwkAddr", "deviceType", "rxOnWhenIdle", "relationship", "permitJoin", "depth", "lqi"]

/-- The bytes one layout item takes on the wire (R134). -/
def LayoutItem.size : LayoutItem → Nat
  | .u8 _ => 1
  | .u16 _ => 2
  | .eui _ => 8
  | .packed _ => 1

/-- The bytes one element takes. -/
def Layout.size (l : Layout) : Nat := (l.map LayoutItem.size).sum

/-- The field names of one layout item. -/
def LayoutItem.names : LayoutItem → List String
  | .u8 n => [n]
  | .u16 n => [n]
  | .eui n => [n]
  | .packed fs => fs.map (·.name)

/-- The field names of an element, in layout order. -/
def Layout.names (l : Layout) : List String := l.flatMap LayoutItem.names

/-- The fields of a packed byte lie inside it, and no two overlap. -/
def BitField.packedOk : List BitField → Bool
  | [] => true
  | f :: fs => decide (f.lo ≤ f.hi ∧ f.hi < 8) && fs.all (fun g => decide (g.hi < f.lo ∨ f.hi < g.lo)) && packedOk fs

/-- A layout whose names are distinct and whose packed bytes are well formed. -/
def Layout.wf (l : Layout) : Bool :=
  decide l.names.Nodup &&
    l.all (fun i => match i with | .packed fs => BitField.packedOk fs | _ => true)

/-- How many bits the field `n` has in an item (`none`: the item has no integer field of that name). -/
def LayoutItem.bitsOf (n : String) : LayoutItem → Option Nat
  | .u8 m => if m = n then some 8 else none
  | .u16 m => if m = n then some 16 else none
  | .eui _ => none
  | .packed fs => (fs.find? (fun f => f.name = n)).map (fun f => f.hi + 1 - f.lo)

/-- The integer field `n` of the layout has at least `k` bits. -/
def Layout.hasBits (l : Layout) (n : String) (k : Nat) : Bool :=
  l.any (fun i => match i.bitsOf n with | some b => decide (k ≤ b) | none => false)

/-- R138, and the source's vector S5 (spec/95_test_vectors.md): a conforming `LAYOUT_NEIGHBOR` has exactly the nine
fields and 23 bytes, is a well-formed layout, and can hold the record of S5 (notes/assumptions/6). -/
def Layout.neighborConforms (l : Layout) : Bool :=
  l.wf && decide (l.size = 23) && decide (l.names.length = 9) && Config.neighborFields.all (fun n => l.names.contains n) &&
    l.contains (.eui "extPanId") && l.contains (.eui "extAddr") &&
    l.hasBits "nwkAddr" 16 && l.hasBits "deviceType" 1 && l.hasBits "rxOnWhenIdle" 2 && l.hasBits "relationship" 2 &&
    l.hasBits "permitJoin" 2 && l.hasBits "depth" 8 && l.hasBits "lqi" 7

/-- A layout that conforms to R138, used only to keep `openNeighbor` conforming where the free layout does not. -/
def Config.someNeighborLayout : Layout :=
  [.eui "extPanId", .eui "extAddr", .u16 "nwkAddr", .packed [⟨"deviceType", 3, 0⟩, ⟨"rxOnWhenIdle", 7, 4⟩],
   .u8 "relationship", .u8 "permitJoin", .u8 "depth", .u8 "lqi"]

/-- R138: `LAYOUT_NEIGHBOR` is open: any conforming layout (every conforming layout is a value of
`openLayoutNeighbor`, and no other is ever taken). -/
def Config.openNeighbor : Layout :=
  if Config.openLayoutNeighbor.neighborConforms then Config.openLayoutNeighbor else Config.someNeighborLayout

/-- R7: the default `CONFIG`, with the open parameters left open. -/
def Config.default : Config where
  minFrameLen := 5
  resyncMode := .discardAll
  drainMode := .single
  rxbufCap := none
  waiterCap := none
  tSreq := 6000
  tLong := 6000 + 1 + Config.openTLongExtra
  longRunning := Config.openLongRunning
  tReset := 30000
  tDefault := 10000
  failOnDisconnect := false
  zdoProfile := 0
  afOptions := 0
  afRadius := 30
  bcastPermitJoin := Config.openBcastPermitJoin
  pjAddrMode := Config.openPjAddrMode
  gateOrder := .any
  layoutRouting := Config.defaultLayoutRouting
  layoutBind := Config.defaultLayoutBind
  layoutNetwork := Config.defaultLayoutNetwork
  layoutNeighbor := Config.openNeighbor
  assocCount := .lengthMinusStart

/-! Subsystem numbers (R74; all but SYS from general knowledge, D5). -/

def Subsys.sys : Subsystem := 1
def Subsys.mac : Subsystem := 2
def Subsys.nwk : Subsystem := 3
def Subsys.af : Subsystem := 4
def Subsys.zdo : Subsystem := 5
def Subsys.sapi : Subsystem := 6
def Subsys.util : Subsystem := 7
def Subsys.debug : Subsystem := 8
def Subsys.app : Subsystem := 9
def Subsys.appCnf : Subsystem := 15
def Subsys.greenpower : Subsystem := 21

/-- R82: the tags in the order of their numbers. -/
def Tag.all : List Tag :=
  [.uint8, .uint16, .uint32, .ieeeaddr, .buffer, .buffer8, .buffer16, .buffer18, .buffer32, .buffer42, .buffer100,
   .listUint8, .listUint16, .listRoutingTable, .listBindTable, .listNeighborLqi, .listNetwork, .listAssocDev,
   .int8, .int16, .int32]

/-- A schema field with the given tag number and no named length source. -/
def ParameterSpec.plain (name : String) (tag : Nat) : ParameterSpec := ⟨name, tag, none, false⟩

/-- A UINT16 schema field that is a network address. -/
def ParameterSpec.address (name : String) : ParameterSpec := ⟨name, 1, none, true⟩

/-- R204, R215: the SYS `version` entry. -/
def CommandSpec.version : CommandSpec :=
  ⟨Subsys.sys, 2, "version", .sreq, [],
   [.plain "transportrev" 0, .plain "product" 0, .plain "majorrel" 0, .plain "minorrel" 0, .plain "maintrel" 0,
    .plain "revision" 2]⟩

/-- R204: the SYS `resetReq` entry. -/
def CommandSpec.resetReq : CommandSpec := ⟨Subsys.sys, 0x00, "resetReq", .areq, [.plain "type" 0], []⟩

/-- R204: the SYS `resetInd` entry. -/
def CommandSpec.resetInd : CommandSpec :=
  ⟨Subsys.sys, 0x80, "resetInd", .areq,
   [.plain "reason" 0, .plain "transportrev" 0, .plain "productid" 0, .plain "majorrel" 0, .plain "minorrel" 0,
    .plain "hwrev" 0], []⟩

/-- R204: the SAPI `systemReset` entry. -/
def CommandSpec.systemReset : CommandSpec := ⟨Subsys.sapi, 0x09, "systemReset", .areq, [], []⟩

/-- R204: the ZDO `nodeDescReq` entry. -/
def CommandSpec.nodeDescReq : CommandSpec :=
  ⟨Subsys.zdo, 0x02, "nodeDescReq", .sreq, [.address "dstaddr", .address "nwkaddrofinterest"], [.plain "status" 0]⟩

/-- R204: the ZDO `mgmtPermitJoinReq` entry. -/
def CommandSpec.mgmtPermitJoinReq : CommandSpec :=
  ⟨Subsys.zdo, 0x36, "mgmtPermitJoinReq", .sreq,
   [.plain "addrmode" 0, .address "dstaddr", .plain "duration" 0, .plain "tcsignificance" 0], [.plain "status" 0]⟩

/-- R204: the AF `dataRequest` entry. -/
def CommandSpec.dataRequest : CommandSpec :=
  ⟨Subsys.af, 0x01, "dataRequest", .sreq,
   [.address "dstaddr", .plain "destendpoint" 0, .plain "srcendpoint" 0, .plain "clusterid" 1, .plain "transid" 0,
    .plain "options" 0, .plain "radius" 0, .plain "len" 0, .plain "data" 4], [.plain "status" 0]⟩

/-- R204: the AF `dataConfirm` entry. -/
def CommandSpec.dataConfirm : CommandSpec :=
  ⟨Subsys.af, 0x80, "dataConfirm", .areq, [.plain "status" 0, .plain "endpoint" 0, .plain "transid" 0], []⟩

/-- R204: the entries of the Command Table that the spec knows, which are its default. -/
def Config.defaultTable : List CommandSpec :=
  [.version, .resetReq, .resetInd, .systemReset, .nodeDescReq, .mgmtPermitJoinReq, .dataRequest, .dataConfirm]

end Sys2Proof
end

