-- ==== Sys2Proof/Syntax.lean ====
section
/-! DEFINITION. The inputs that agents present to ZCC-PE (spec/30_encoding.md R78 to R80, spec/00_scope.md R6) and the
instruction type: one constructor for each row of spec/opcode_table.json. -/

namespace Sys2Proof

/-- R6: who presents an input. -/
inductive Agent where
  | transport
  | caller
  | clock
  | block
deriving DecidableEq, Repr

/-- R80: one operand of an operand record, typed as R80 and R11 type it (notes/assumptions/3). -/
inductive Operand where
  | num (n : Nat)
  | optNum (n : Option Nat)
  | bytes (s : List Byte)
  | name (n : String)
  | value (v : Value)
  | payload (m : Fields)
  | opts (o : ReadOpts)
  | frame (f : Frame)
  | object (o : CommandObject)
  | ints (l : List Int)
deriving DecidableEq, Repr

/-- What an agent presents in one step: an operation word with its operand record on the operation port (R78), or
a chunk of bytes on the wire (the transport's `on_bytes`, R6, R311). -/
inductive Input where
  | op (issuer : Agent) (word : Byte) (record : List Operand)
  | wire (bytes : List Byte)
deriving DecidableEq, Repr

/-- The instructions: the operations of R79 with the operands of R80, and the wire frames of R86. -/
inductive Instr where
  | frameEncode (ctype subsystem commandId : Nat) (payload : List Byte)
  | rxPush (chunk : List Byte)
  | checksum (s : List Byte)
  | pwriteUint8 (value : Value) (w : List Byte)
  | pwriteUint16 (value : Value) (w : List Byte)
  | pwriteUint32 (value : Value) (w : List Byte)
  | pwriteIeeeaddr (value : Value) (w : List Byte)
  | pwriteBuffer (value : Value) (w : List Byte)
  | pwriteBuffer8 (value : Value) (w : List Byte)
  | pwriteBuffer16 (value : Value) (w : List Byte)
  | pwriteBuffer18 (value : Value) (w : List Byte)
  | pwriteBuffer32 (value : Value) (w : List Byte)
  | pwriteBuffer42 (value : Value) (w : List Byte)
  | pwriteBuffer100 (value : Value) (w : List Byte)
  | pwriteListUint8 (value : Value) (w : List Byte)
  | pwriteListUint16 (value : Value) (w : List Byte)
  | pwriteListRoutingTable (value : Value) (w : List Byte)
  | pwriteListBindTable (value : Value) (w : List Byte)
  | pwriteListNeighborLqi (value : Value) (w : List Byte)
  | pwriteListNetwork (value : Value) (w : List Byte)
  | pwriteListAssocDev (value : Value) (w : List Byte)
  | pwriteInt8 (value : Value) (w : List Byte)
  | pwriteInt16 (value : Value) (w : List Byte)
  | pwriteInt32 (value : Value) (w : List Byte)
  | preadUint8 (opts : ReadOpts) (buf : List Byte) (pos : Nat)
  | preadUint16 (opts : ReadOpts) (buf : List Byte) (pos : Nat)
  | preadUint32 (opts : ReadOpts) (buf : List Byte) (pos : Nat)
  | preadIeeeaddr (opts : ReadOpts) (buf : List Byte) (pos : Nat)
  | preadBuffer (opts : ReadOpts) (buf : List Byte) (pos : Nat)
  | preadBuffer8 (opts : ReadOpts) (buf : List Byte) (pos : Nat)
  | preadBuffer16 (opts : ReadOpts) (buf : List Byte) (pos : Nat)
  | preadBuffer18 (opts : ReadOpts) (buf : List Byte) (pos : Nat)
  | preadBuffer32 (opts : ReadOpts) (buf : List Byte) (pos : Nat)
  | preadBuffer42 (opts : ReadOpts) (buf : List Byte) (pos : Nat)
  | preadBuffer100 (opts : ReadOpts) (buf : List Byte) (pos : Nat)
  | preadListUint8 (opts : ReadOpts) (buf : List Byte) (pos : Nat)
  | preadListUint16 (opts : ReadOpts) (buf : List Byte) (pos : Nat)
  | preadListRoutingTable (opts : ReadOpts) (buf : List Byte) (pos : Nat)
  | preadListBindTable (opts : ReadOpts) (buf : List Byte) (pos : Nat)
  | preadListNeighborLqi (opts : ReadOpts) (buf : List Byte) (pos : Nat)
  | preadListNetwork (opts : ReadOpts) (buf : List Byte) (pos : Nat)
  | preadListAssocDev (opts : ReadOpts) (buf : List Byte) (pos : Nat)
  | preadInt8 (opts : ReadOpts) (buf : List Byte) (pos : Nat)
  | preadInt16 (opts : ReadOpts) (buf : List Byte) (pos : Nat)
  | preadInt32 (opts : ReadOpts) (buf : List Byte) (pos : Nat)
  | fromFrame (f : Frame)
  | toFrame (obj : CommandObject)
  | fromCommand (subsystem : Nat) (name : String) (payload : Fields)
  | fromCluster (dst profile cluster srcEp dstEp tsn : Nat) (data : List Byte)
  | isResetCommand (obj : CommandObject)
  | lookupById (subsystem wireId : Nat)
  | lookupByName (subsystem : Nat) (name : String)
  | request (subsystem : Nat) (name : String) (payload : Fields) (expectedStatus : List Int)
  | createResponseWaiter (ctype subsystem : Nat) (name : String) (matcher : Fields) (timeout : Option Nat)
  | await (wid : Nat)
  | cancelRequest (rid : Nat)
  | cancelWaiter (wid : Nat)
  | tick (dt : Nat)
  | disconnect
  | frameReceived (f : Frame)
  | gateGrant
  | framePoll (length : Byte) (subsystem : Subsystem) (commandId : Byte) (payload : List Byte) (checksum : Byte)
  | frameSreq (length : Byte) (subsystem : Subsystem) (commandId : Byte) (payload : List Byte) (checksum : Byte)
  | frameAreq (length : Byte) (subsystem : Subsystem) (commandId : Byte) (payload : List Byte) (checksum : Byte)
  | frameSrsp (length : Byte) (subsystem : Subsystem) (commandId : Byte) (payload : List Byte) (checksum : Byte)
  | frameReservedType (typeLow : BitVec 2) (length : Byte) (subsystem : Subsystem) (commandId : Byte)
      (payload : List Byte) (checksum : Byte)
deriving DecidableEq, Repr

end Sys2Proof
end

