-- ==== Sys2Proof/Machine/Bytes.lean ====
section
/-! DEFINITION. Byte-level helpers: the XOR-fold, the cmd0 byte, little-endian integers, two's complement and bit
fields (spec/00_scope.md R8 to R10, spec/30_encoding.md R71, spec/20_memory.md R55, R56). -/

namespace Sys2Proof

/-- The start-of-frame marker (R7, R70). -/
def marker : Byte := 0xFE

/-- R10: the XOR of every byte; 0x00 for the empty sequence. -/
def xorfold : List Byte → Byte
  | [] => 0
  | b :: bs => b ^^^ xorfold bs

/-- R71, R101: `(command_type << 5) | (subsystem & 0x1F)`, 8 bits. -/
def cmd0 (ctype subsystem : Nat) : Byte := BitVec.ofNat 8 ((ctype <<< 5) ||| (subsystem &&& 0x1F))

/-- R71: `cmd0[7:5]`. -/
def cmd0Type (b : Byte) : BitVec 3 := b.extractLsb' 5 3

/-- R71: `cmd0[4:0]`. -/
def cmd0Subsystem (b : Byte) : Subsystem := b.extractLsb' 0 5

/-- R9 `le_bytes`: the low `k` bytes of `v`, least significant first. -/
def leBytes : Nat → Nat → List Byte
  | 0, _ => []
  | k + 1, v => BitVec.ofNat 8 v :: leBytes k (v / 256)

/-- R9 `le_value`: the unsigned little-endian value. -/
def leValue : List Byte → Nat
  | [] => 0
  | b :: bs => b.toNat + 256 * leValue bs

/-- R9 `sext_N`: the two's complement reading of an `N`-bit value. -/
def sext (bits v : Nat) : Int := if 2 ^ (bits - 1) ≤ v then (v : Int) - 2 ^ bits else v

/-- R133: the range of an `N`-bit integer. -/
def intInRange (bits : Nat) (signed : Bool) (n : Int) : Bool :=
  if signed then decide (-(2 ^ (bits - 1) : Int) ≤ n ∧ n < 2 ^ (bits - 1)) else decide (0 ≤ n ∧ n < 2 ^ bits)

/-- R133: `n mod 2^N` as `N/8` little-endian bytes. -/
def intBytes (bits : Nat) (n : Int) : List Byte := leBytes (bits / 8) (n % 2 ^ bits).toNat

/-- R56, R146: the wire order of an identifier, its textual bytes reversed. -/
def euiBytes (t : Eui) : List Byte := [t.t7, t.t6, t.t5, t.t4, t.t3, t.t2, t.t1, t.t0]

/-- R147: the identifier that 8 wire bytes carry (another number of bytes carries none). -/
def euiOfBytes : List Byte → Option Eui
  | [b0, b1, b2, b3, b4, b5, b6, b7] => some ⟨b7, b6, b5, b4, b3, b2, b1, b0⟩
  | _ => none

/-- R8: `byte[hi:lo]`, zero-extended. -/
def bitField (b : Byte) (hi lo : Nat) : Nat := b.toNat / 2 ^ lo % 2 ^ (hi + 1 - lo)

/-- R73: the number of a command type. -/
def CmdType.toBits : CmdType → BitVec 3
  | .poll => 0
  | .sreq => 1
  | .areq => 2
  | .srsp => 3

/-- R73: the command type of a number; 4 to 7 are reserved. -/
def CmdType.ofNat? : Nat → Option CmdType
  | 0 => some .poll
  | 1 => some .sreq
  | 2 => some .areq
  | 3 => some .srsp
  | _ => none

/-- R82: the tag of a number; a number of 21 or more has no rule (R83). -/
def Tag.ofNat? (n : Nat) : Option Tag := Tag.all[n]?

/-- R82: the number of a tag. -/
def Tag.toNat : Tag → Nat
  | .uint8 => 0
  | .uint16 => 1
  | .uint32 => 2
  | .ieeeaddr => 3
  | .buffer => 4
  | .buffer8 => 5
  | .buffer16 => 6
  | .buffer18 => 7
  | .buffer32 => 8
  | .buffer42 => 9
  | .buffer100 => 10
  | .listUint8 => 11
  | .listUint16 => 12
  | .listRoutingTable => 13
  | .listBindTable => 14
  | .listNeighborLqi => 15
  | .listNetwork => 16
  | .listAssocDev => 17
  | .int8 => 18
  | .int16 => 19
  | .int32 => 20

/-- R70: the bytes of a frame with the given header fields, payload and checksum byte, as they stand. -/
def wireBytes (length ctypeAndSubsystem commandId : Byte) (payload : List Byte) (checksum : Byte) : List Byte :=
  [marker, length, ctypeAndSubsystem, commandId] ++ payload ++ [checksum]

/-- R76: the checksum that the frame's own fields call for. -/
def Frame.properChecksum (f : Frame) : Byte :=
  xorfold ([f.length, cmd0 f.commandType.toNat f.subsystem.toNat, f.commandId] ++ f.payload)

/-- R37: the invariants of a valid Frame. -/
def Frame.valid (f : Frame) : Bool :=
  decide (f.length.toNat = f.payload.length) && decide (f.checksum = f.properChecksum)

end Sys2Proof
end

