-- ==== Sys2Proof/Machine/Operands.lean ====
section
/-! DEFINITION. The ranges of the operands (spec/30_encoding.md R80, spec/00_scope.md R11): every port operation
checks them before it reads or writes anything (spec/60_exceptions.md R303). -/

namespace Sys2Proof

/-- `k` is below the first name of a canonical map. -/
def Fields.keyAbove (k : String) : Fields → Bool
  | .nil => true
  | .cons k' _ _ => decide (k < k')

mutual
/-- R11: every map inside the value is in its one canonical form. -/
def Value.wf : Value → Bool
  | .list vs => vs.wf
  | .record m => m.wf
  | .int _ => true
  | .nwk _ => true
  | .eui _ => true
  | .bytes _ => true

/-- Every value of the sequence is well formed. -/
def Values.wf : Values → Bool
  | .nil => true
  | .cons v vs => v.wf && vs.wf

/-- R11: a finite map: names strictly rising, each value well formed. -/
def Fields.wf : Fields → Bool
  | .nil => true
  | .cons k v m => v.wf && m.keyAbove k && m.wf
end

/-- R80: a finite set of integers in its one canonical form, strictly rising. -/
def Operands.setOk : List Int → Bool
  | [] => true
  | [_] => true
  | a :: b :: l => decide (a < b) && setOk (b :: l)

/-- R101: `ctype` 0..7, `subsystem` 0..255, `command_id` 0..255. -/
def Operands.frameEncode (ctype subsystem commandId : Nat) : Bool :=
  decide (ctype ≤ 7 ∧ subsystem ≤ 255 ∧ commandId ≤ 255)

/-- R37, R38: a subsystem is 0..31 (notes/assumptions/15). -/
def Operands.subsystem (n : Nat) : Bool := decide (n < 32)

/-- R202: `subsystem` 0..31, `wire_id` 0..255. -/
def Operands.lookupById (subsystem wireId : Nat) : Bool := decide (subsystem < 32 ∧ wireId ≤ 255)

/-- R80: `dst`, `profile`, `cluster` 0..0xFFFF, `src_ep`, `dst_ep`, `tsn` 0..255. -/
def Operands.fromCluster (dst profile cluster srcEp dstEp tsn : Nat) : Bool :=
  decide (dst ≤ 0xFFFF ∧ profile ≤ 0xFFFF ∧ cluster ≤ 0xFFFF ∧ srcEp ≤ 255 ∧ dstEp ≤ 255 ∧ tsn ≤ 255)

/-- R209: a subsystem and a payload. -/
def Operands.fromCommand (subsystem : Nat) (payload : Fields) : Bool := Operands.subsystem subsystem && payload.wf

/-- R39: a schema's names are distinct. -/
def Operands.schema (sch : Schema) : Bool := decide (sch.map (·.name)).Nodup

/-- R38, R39: an object whose payload is a map and whose schema has distinct names (notes/assumptions/16). -/
def Operands.object (o : CommandObject) : Bool := o.payload.wf && Operands.schema o.schemaUsed

/-- R241: a subsystem, a payload and a set of integers. -/
def Operands.request (subsystem : Nat) (payload : Fields) (expected : List Int) : Bool :=
  Operands.subsystem subsystem && payload.wf && Operands.setOk expected

/-- R252: `ctype` 0..3, a subsystem and a matcher payload. -/
def Operands.waiter (ctype subsystem : Nat) (matcher : Fields) : Bool :=
  decide (ctype ≤ 3) && Operands.subsystem subsystem && matcher.wf

/-- R257: a Frame with a valid checksum (notes/assumptions/22). -/
def Operands.frameReceived (f : Frame) : Bool := f.valid

end Sys2Proof
end

