-- ==== Sys2Proof/WellFormed.lean ====
section
/-! DEFINITION. Which instructions are well formed: their operands are in the ranges of spec/30_encoding.md R80, and a
wire frame's payload has the length its length byte says (R70, R72). The ranges are the ones the machine checks. -/

namespace Sys2Proof

/-- R80, R70: the operands are in range. -/
def Instr.wf : Instr → Bool
  | .frameEncode c s i _ => Operands.frameEncode c s i
  | .rxPush _ => true
  | .checksum _ => true
  | .pwriteUint8 v _ => v.wf
  | .pwriteUint16 v _ => v.wf
  | .pwriteUint32 v _ => v.wf
  | .pwriteIeeeaddr v _ => v.wf
  | .pwriteBuffer v _ => v.wf
  | .pwriteBuffer8 v _ => v.wf
  | .pwriteBuffer16 v _ => v.wf
  | .pwriteBuffer18 v _ => v.wf
  | .pwriteBuffer32 v _ => v.wf
  | .pwriteBuffer42 v _ => v.wf
  | .pwriteBuffer100 v _ => v.wf
  | .pwriteListUint8 v _ => v.wf
  | .pwriteListUint16 v _ => v.wf
  | .pwriteListRoutingTable v _ => v.wf
  | .pwriteListBindTable v _ => v.wf
  | .pwriteListNeighborLqi v _ => v.wf
  | .pwriteListNetwork v _ => v.wf
  | .pwriteListAssocDev v _ => v.wf
  | .pwriteInt8 v _ => v.wf
  | .pwriteInt16 v _ => v.wf
  | .pwriteInt32 v _ => v.wf
  | .preadUint8 _ _ _ => true
  | .preadUint16 _ _ _ => true
  | .preadUint32 _ _ _ => true
  | .preadIeeeaddr _ _ _ => true
  | .preadBuffer _ _ _ => true
  | .preadBuffer8 _ _ _ => true
  | .preadBuffer16 _ _ _ => true
  | .preadBuffer18 _ _ _ => true
  | .preadBuffer32 _ _ _ => true
  | .preadBuffer42 _ _ _ => true
  | .preadBuffer100 _ _ _ => true
  | .preadListUint8 _ _ _ => true
  | .preadListUint16 _ _ _ => true
  | .preadListRoutingTable _ _ _ => true
  | .preadListBindTable _ _ _ => true
  | .preadListNeighborLqi _ _ _ => true
  | .preadListNetwork _ _ _ => true
  | .preadListAssocDev _ _ _ => true
  | .preadInt8 _ _ _ => true
  | .preadInt16 _ _ _ => true
  | .preadInt32 _ _ _ => true
  | .fromFrame _ => true
  | .toFrame o => Operands.object o
  | .fromCommand s _ p => Operands.fromCommand s p
  | .fromCluster d p c se de t _ => Operands.fromCluster d p c se de t
  | .isResetCommand o => Operands.object o
  | .lookupById s w => Operands.lookupById s w
  | .lookupByName s _ => Operands.subsystem s
  | .request s _ p e => Operands.request s p e
  | .createResponseWaiter c s _ m _ => Operands.waiter c s m
  | .await _ => true
  | .cancelRequest _ => true
  | .cancelWaiter _ => true
  | .tick _ => true
  | .disconnect => true
  | .frameReceived f => Operands.frameReceived f
  | .gateGrant => true
  | .framePoll l _ _ p _ => decide (p.length = l.toNat)
  | .frameSreq l _ _ p _ => decide (p.length = l.toNat)
  | .frameAreq l _ _ p _ => decide (p.length = l.toNat)
  | .frameSrsp l _ _ p _ => decide (p.length = l.toNat)
  | .frameReservedType _ l _ _ p _ => decide (p.length = l.toNat)

/-- A well-formed instruction. -/
abbrev Instr.WellFormed (i : Instr) : Prop := i.wf = true

end Sys2Proof
end

