-- ==== Sys2Proof/Decode.lean ====
section
/-! DEFINITION. From what an agent presents to an instruction, and back: the operation word and its operand record
(spec/30_encoding.md R78 to R83), the wire frame and its header patterns (R70 to R77, R86). Decoding is total and
rejects by name; after it stands the encoder, and the two functions by which the host presents a table word. -/

namespace Sys2Proof

/-- Why a presented operation is no instruction. -/
inductive Reject where
  /-- R81: an operation word that is not in the opcode map. -/
  | illegalWord (op : Byte)
  /-- R81: an internal word (0xE0, 0xE1) presented by an agent. -/
  | internalWord (op : Byte)
  /-- R80: a record that does not hold the operands the operation takes. -/
  | badOperands (op : Byte)
  /-- R83: PWRITE or PREAD of a tag that has no rule. -/
  | tagWithoutRule (tag : Nat)
deriving DecidableEq, Repr

/-- R78: `op[7:5]`. -/
def opUnit (op : Byte) : Nat := op.toNat / 32

/-- R78: `op[4:0]`. -/
def opFunction (op : Byte) : Nat := op.toNat % 32

/-- R79: the write of a tag. -/
def writeInstr (t : Tag) (v : Value) (w : List Byte) : Instr :=
  match t with
  | .uint8 => .pwriteUint8 v w
  | .uint16 => .pwriteUint16 v w
  | .uint32 => .pwriteUint32 v w
  | .ieeeaddr => .pwriteIeeeaddr v w
  | .buffer => .pwriteBuffer v w
  | .buffer8 => .pwriteBuffer8 v w
  | .buffer16 => .pwriteBuffer16 v w
  | .buffer18 => .pwriteBuffer18 v w
  | .buffer32 => .pwriteBuffer32 v w
  | .buffer42 => .pwriteBuffer42 v w
  | .buffer100 => .pwriteBuffer100 v w
  | .listUint8 => .pwriteListUint8 v w
  | .listUint16 => .pwriteListUint16 v w
  | .listRoutingTable => .pwriteListRoutingTable v w
  | .listBindTable => .pwriteListBindTable v w
  | .listNeighborLqi => .pwriteListNeighborLqi v w
  | .listNetwork => .pwriteListNetwork v w
  | .listAssocDev => .pwriteListAssocDev v w
  | .int8 => .pwriteInt8 v w
  | .int16 => .pwriteInt16 v w
  | .int32 => .pwriteInt32 v w

/-- R79: the read of a tag. -/
def readInstr (t : Tag) (o : ReadOpts) (b : List Byte) (p : Nat) : Instr :=
  match t with
  | .uint8 => .preadUint8 o b p
  | .uint16 => .preadUint16 o b p
  | .uint32 => .preadUint32 o b p
  | .ieeeaddr => .preadIeeeaddr o b p
  | .buffer => .preadBuffer o b p
  | .buffer8 => .preadBuffer8 o b p
  | .buffer16 => .preadBuffer16 o b p
  | .buffer18 => .preadBuffer18 o b p
  | .buffer32 => .preadBuffer32 o b p
  | .buffer42 => .preadBuffer42 o b p
  | .buffer100 => .preadBuffer100 o b p
  | .listUint8 => .preadListUint8 o b p
  | .listUint16 => .preadListUint16 o b p
  | .listRoutingTable => .preadListRoutingTable o b p
  | .listBindTable => .preadListBindTable o b p
  | .listNeighborLqi => .preadListNeighborLqi o b p
  | .listNetwork => .preadListNetwork o b p
  | .listAssocDev => .preadListAssocDev o b p
  | .int8 => .preadInt8 o b p
  | .int16 => .preadInt16 o b p
  | .int32 => .preadInt32 o b p

/-- R79: unit 0, the Frame Codec. -/
def decodeFrameCodec (op : Byte) (r : List Operand) : Except Reject Instr :=
  match opFunction op with
  | 0x00 =>
    match r with
    | [.num c, .num s, .num i, .bytes p] => .ok (.frameEncode c s i p)
    | _ => .error (.badOperands op)
  | 0x01 =>
    match r with
    | [.bytes c] => .ok (.rxPush c)
    | _ => .error (.badOperands op)
  | 0x02 =>
    match r with
    | [.bytes s] => .ok (.checksum s)
    | _ => .error (.badOperands op)
  | _ => .error (.illegalWord op)

/-- R79, R83: unit 1, PWRITE. The operands are checked before the tag (R303, notes/assumptions/27). -/
def decodeWrite (op : Byte) (r : List Operand) : Except Reject Instr :=
  match r with
  | [.value v, .bytes w] =>
    match Tag.ofNat? (opFunction op) with
    | some t => .ok (writeInstr t v w)
    | none => if v.wf then .error (.tagWithoutRule (opFunction op)) else .error (.badOperands op)
  | _ => .error (.badOperands op)

/-- R79, R83: unit 2, PREAD. -/
def decodeRead (op : Byte) (r : List Operand) : Except Reject Instr :=
  match r with
  | [.opts o, .bytes b, .num p] =>
    match Tag.ofNat? (opFunction op) with
    | some t => .ok (readInstr t o b p)
    | none => .error (.tagWithoutRule (opFunction op))
  | _ => .error (.badOperands op)

/-- R79: unit 3, the Command Object unit and the Command Table. -/
def decodeCommandObject (op : Byte) (r : List Operand) : Except Reject Instr :=
  match opFunction op with
  | 0x00 =>
    match r with
    | [.frame f] => .ok (.fromFrame f)
    | _ => .error (.badOperands op)
  | 0x01 =>
    match r with
    | [.object o] => .ok (.toFrame o)
    | _ => .error (.badOperands op)
  | 0x02 =>
    match r with
    | [.num s, .name n, .payload p] => .ok (.fromCommand s n p)
    | _ => .error (.badOperands op)
  | 0x03 =>
    match r with
    | [.num d, .num p, .num c, .num se, .num de, .num t, .bytes x] => .ok (.fromCluster d p c se de t x)
    | _ => .error (.badOperands op)
  | 0x04 =>
    match r with
    | [.object o] => .ok (.isResetCommand o)
    | _ => .error (.badOperands op)
  | 0x05 =>
    match r with
    | [.num s, .num w] => .ok (.lookupById s w)
    | _ => .error (.badOperands op)
  | 0x06 =>
    match r with
    | [.num s, .name n] => .ok (.lookupByName s n)
    | _ => .error (.badOperands op)
  | _ => .error (.illegalWord op)

/-- R79: unit 4, the Request Engine. -/
def decodeRequestEngine (op : Byte) (r : List Operand) : Except Reject Instr :=
  match opFunction op with
  | 0x00 =>
    match r with
    | [.num s, .name n, .payload p, .ints e] => .ok (.request s n p e)
    | _ => .error (.badOperands op)
  | 0x01 =>
    match r with
    | [.num c, .num s, .name n, .payload m, .optNum t] => .ok (.createResponseWaiter c s n m t)
    | _ => .error (.badOperands op)
  | 0x02 =>
    match r with
    | [.num w] => .ok (.await w)
    | _ => .error (.badOperands op)
  | 0x03 =>
    match r with
    | [.num i] => .ok (.cancelRequest i)
    | _ => .error (.badOperands op)
  | 0x04 =>
    match r with
    | [.num w] => .ok (.cancelWaiter w)
    | _ => .error (.badOperands op)
  | 0x05 =>
    match r with
    | [.num dt] => .ok (.tick dt)
    | _ => .error (.badOperands op)
  | 0x06 =>
    match r with
    | [] => .ok .disconnect
    | _ => .error (.badOperands op)
  | _ => .error (.illegalWord op)

/-- R79, R81: unit 7, the internal words, which only the block presents. That FRAME_RECEIVED can also be a step of its own is the model's choice
(notes/assumptions/33). -/
def decodeInternal (who : Agent) (op : Byte) (r : List Operand) : Except Reject Instr :=
  match opFunction op with
  | 0x00 =>
    match who with
    | .block =>
      match r with
      | [.frame f] => .ok (.frameReceived f)
      | _ => .error (.badOperands op)
    | _ => .error (.internalWord op)
  | 0x01 =>
    match who with
    | .block =>
      match r with
      | [] => .ok .gateGrant
      | _ => .error (.badOperands op)
    | _ => .error (.internalWord op)
  | _ => .error (.illegalWord op)

/-- R78 to R81: an operation presented on the port. -/
def decodeOp (who : Agent) (op : Byte) (r : List Operand) : Except Reject Instr :=
  match opUnit op with
  | 0 => decodeFrameCodec op r
  | 1 => decodeWrite op r
  | 2 => decodeRead op r
  | 3 => decodeCommandObject op r
  | 4 => decodeRequestEngine op r
  | 7 => decodeInternal who op r
  | _ => .error (.illegalWord op)

/-- R86: the frame kinds. -/
inductive FrameKind where
  | poll
  | sreq
  | areq
  | srsp
  | reservedType
deriving DecidableEq, Repr

/-- R86: one row of the header patterns. -/
structure HeaderRow where
  kind : FrameKind
  pattern : BitVec 32
  mask : BitVec 32
deriving DecidableEq, Repr

/-- R86: the header patterns. -/
def headerRows : List HeaderRow :=
  [⟨.poll, 0xFE000000, 0xFF00E000⟩, ⟨.sreq, 0xFE002000, 0xFF00E000⟩, ⟨.areq, 0xFE004000, 0xFF00E000⟩,
   ⟨.srsp, 0xFE006000, 0xFF00E000⟩, ⟨.reservedType, 0xFE008000, 0xFF008000⟩]

/-- R86: `W = frame[0]<<24 | frame[1]<<16 | frame[2]<<8 | frame[3]`. -/
def headerWord (b0 b1 b2 b3 : Byte) : BitVec 32 := b0 ++ b1 ++ b2 ++ b3

/-- R86: the frame kind that a header word selects; none if it does not begin with the marker. -/
def headerKind (w : BitVec 32) : Option FrameKind :=
  (headerRows.find? (fun r => w &&& r.mask == r.pattern)).map (·.kind)

/-- R86: the frame of a kind, from its header word, payload and checksum. -/
def frameInstr (k : FrameKind) (w : BitVec 32) (payload : List Byte) (checksum : Byte) : Instr :=
  match k with
  | .poll => .framePoll (w.extractLsb' 16 8) (w.extractLsb' 8 5) (w.extractLsb' 0 8) payload checksum
  | .sreq => .frameSreq (w.extractLsb' 16 8) (w.extractLsb' 8 5) (w.extractLsb' 0 8) payload checksum
  | .areq => .frameAreq (w.extractLsb' 16 8) (w.extractLsb' 8 5) (w.extractLsb' 0 8) payload checksum
  | .srsp => .frameSrsp (w.extractLsb' 16 8) (w.extractLsb' 8 5) (w.extractLsb' 0 8) payload checksum
  | .reservedType => .frameReservedType (w.extractLsb' 13 2) (w.extractLsb' 16 8) (w.extractLsb' 8 5) (w.extractLsb' 0 8)
      payload checksum

/-- R70, R77, R86: the frame that a chunk is, where it is exactly one whole frame: `5 + frame[1]` bytes whose header
fits a pattern. -/
def decodeFrame : List Byte → Option Instr
  | b0 :: b1 :: b2 :: b3 :: rest =>
    if rest.length = b1.toNat + 1 then
      match headerKind (headerWord b0 b1 b2 b3) with
      | some k => some (frameInstr k (headerWord b0 b1 b2 b3) (rest.take b1.toNat) (rest.getD b1.toNat 0))
      | none => none
    else none
  | _ => none

/-- The instruction that an input is. A chunk that is exactly one whole frame is that frame's row of the opcode table;
any other chunk is an RX_PUSH of it (R103, R311; notes/assumptions/4). -/
def decode : Input → Except Reject Instr
  | .op who word record => decodeOp who word record
  | .wire bs => .ok ((decodeFrame bs).getD (.rxPush bs))

/-! The encoder. -/

/-- R79: the operation word of a tag's write. -/
def writeWord (t : Tag) : Byte := BitVec.ofNat 8 (0x20 + t.toNat)

/-- R79: the operation word of a tag's read. -/
def readWord (t : Tag) : Byte := BitVec.ofNat 8 (0x40 + t.toNat)

/-- R80: a write as an input. -/
def encodeWrite (t : Tag) (v : Value) (w : List Byte) : Input := .op .caller (writeWord t) [.value v, .bytes w]

/-- R80: a read as an input. -/
def encodeRead (t : Tag) (o : ReadOpts) (b : List Byte) (p : Nat) : Input :=
  .op .caller (readWord t) [.opts o, .bytes b, .num p]

/-- R70: a frame of the given type number as a chunk. -/
def encodeFrameInstr (ctype : Nat) (l : Byte) (s : Subsystem) (i : Byte) (p : List Byte) (x : Byte) : Input :=
  .wire (wireBytes l (cmd0 ctype s.toNat) i p x)

/-- R70, R79, R80: an instruction as its issuer presents it. -/
def encode : Instr → Input
  | .frameEncode c s i p => .op .caller 0x00 [.num c, .num s, .num i, .bytes p]
  | .rxPush c => .op .transport 0x01 [.bytes c]
  | .checksum s => .op .caller 0x02 [.bytes s]
  | .pwriteUint8 v w => encodeWrite .uint8 v w
  | .pwriteUint16 v w => encodeWrite .uint16 v w
  | .pwriteUint32 v w => encodeWrite .uint32 v w
  | .pwriteIeeeaddr v w => encodeWrite .ieeeaddr v w
  | .pwriteBuffer v w => encodeWrite .buffer v w
  | .pwriteBuffer8 v w => encodeWrite .buffer8 v w
  | .pwriteBuffer16 v w => encodeWrite .buffer16 v w
  | .pwriteBuffer18 v w => encodeWrite .buffer18 v w
  | .pwriteBuffer32 v w => encodeWrite .buffer32 v w
  | .pwriteBuffer42 v w => encodeWrite .buffer42 v w
  | .pwriteBuffer100 v w => encodeWrite .buffer100 v w
  | .pwriteListUint8 v w => encodeWrite .listUint8 v w
  | .pwriteListUint16 v w => encodeWrite .listUint16 v w
  | .pwriteListRoutingTable v w => encodeWrite .listRoutingTable v w
  | .pwriteListBindTable v w => encodeWrite .listBindTable v w
  | .pwriteListNeighborLqi v w => encodeWrite .listNeighborLqi v w
  | .pwriteListNetwork v w => encodeWrite .listNetwork v w
  | .pwriteListAssocDev v w => encodeWrite .listAssocDev v w
  | .pwriteInt8 v w => encodeWrite .int8 v w
  | .pwriteInt16 v w => encodeWrite .int16 v w
  | .pwriteInt32 v w => encodeWrite .int32 v w
  | .preadUint8 o b p => encodeRead .uint8 o b p
  | .preadUint16 o b p => encodeRead .uint16 o b p
  | .preadUint32 o b p => encodeRead .uint32 o b p
  | .preadIeeeaddr o b p => encodeRead .ieeeaddr o b p
  | .preadBuffer o b p => encodeRead .buffer o b p
  | .preadBuffer8 o b p => encodeRead .buffer8 o b p
  | .preadBuffer16 o b p => encodeRead .buffer16 o b p
  | .preadBuffer18 o b p => encodeRead .buffer18 o b p
  | .preadBuffer32 o b p => encodeRead .buffer32 o b p
  | .preadBuffer42 o b p => encodeRead .buffer42 o b p
  | .preadBuffer100 o b p => encodeRead .buffer100 o b p
  | .preadListUint8 o b p => encodeRead .listUint8 o b p
  | .preadListUint16 o b p => encodeRead .listUint16 o b p
  | .preadListRoutingTable o b p => encodeRead .listRoutingTable o b p
  | .preadListBindTable o b p => encodeRead .listBindTable o b p
  | .preadListNeighborLqi o b p => encodeRead .listNeighborLqi o b p
  | .preadListNetwork o b p => encodeRead .listNetwork o b p
  | .preadListAssocDev o b p => encodeRead .listAssocDev o b p
  | .preadInt8 o b p => encodeRead .int8 o b p
  | .preadInt16 o b p => encodeRead .int16 o b p
  | .preadInt32 o b p => encodeRead .int32 o b p
  | .fromFrame f => .op .caller 0x60 [.frame f]
  | .toFrame o => .op .caller 0x61 [.object o]
  | .fromCommand s n p => .op .caller 0x62 [.num s, .name n, .payload p]
  | .fromCluster d p c se de t x => .op .caller 0x63 [.num d, .num p, .num c, .num se, .num de, .num t, .bytes x]
  | .isResetCommand o => .op .caller 0x64 [.object o]
  | .lookupById s w => .op .caller 0x65 [.num s, .num w]
  | .lookupByName s n => .op .caller 0x66 [.num s, .name n]
  | .request s n p e => .op .caller 0x80 [.num s, .name n, .payload p, .ints e]
  | .createResponseWaiter c s n m t => .op .caller 0x81 [.num c, .num s, .name n, .payload m, .optNum t]
  | .await w => .op .caller 0x82 [.num w]
  | .cancelRequest r => .op .caller 0x83 [.num r]
  | .cancelWaiter w => .op .caller 0x84 [.num w]
  | .tick dt => .op .clock 0x85 [.num dt]
  | .disconnect => .op .transport 0x86 []
  | .frameReceived f => .op .block 0xE0 [.frame f]
  | .gateGrant => .op .block 0xE1 []
  | .framePoll l s i p x => encodeFrameInstr 0 l s i p x
  | .frameSreq l s i p x => encodeFrameInstr 1 l s i p x
  | .frameAreq l s i p x => encodeFrameInstr 2 l s i p x
  | .frameSrsp l s i p x => encodeFrameInstr 3 l s i p x
  | .frameReservedType t l s i p x => encodeFrameInstr (4 + t.toNat) l s i p x

/-! Table words: what the host presents (a word of spec/opcode_table.json, every operand zero). -/

/-- The Frame whose every field is zero. -/
def zeroFrame : Frame := ⟨0, 0, 0, [], 0, 0⟩

/-- The CommandObject whose every field is zero or empty. -/
def zeroObject : CommandObject := ⟨.poll, 0, "", 0, .nil, [], none⟩

/-- R80: the operand record of an operation word with every operand zero or empty. -/
def zeroRecord (op : Byte) : List Operand :=
  match opUnit op, opFunction op with
  | 0, 0 => [.num 0, .num 0, .num 0, .bytes []]
  | 0, _ => [.bytes []]
  | 1, _ => [.value (.int 0), .bytes []]
  | 2, _ => [.opts ⟨none, none, false⟩, .bytes [], .num 0]
  | 3, 0 => [.frame zeroFrame]
  | 3, 1 => [.object zeroObject]
  | 3, 2 => [.num 0, .name "", .payload .nil]
  | 3, 3 => [.num 0, .num 0, .num 0, .num 0, .num 0, .num 0, .bytes []]
  | 3, 4 => [.object zeroObject]
  | 3, 5 => [.num 0, .num 0]
  | 3, 6 => [.num 0, .name ""]
  | 4, 0 => [.num 0, .name "", .payload .nil, .ints []]
  | 4, 1 => [.num 0, .num 0, .name "", .payload .nil, .optNum none]
  | 4, 6 => []
  | 4, _ => [.num 0]
  | 7, 0 => [.frame zeroFrame]
  | _, _ => []

/-- R79: the agent that presents an operation word. -/
def wordIssuer (op : Byte) : Agent :=
  if opUnit op = 7 then .block
  else if op = 0x01 ∨ op = 0x86 then .transport
  else if op = 0x85 then .clock
  else .caller

/-- The input that a table word stands for: an 8-bit operation word with its zero record; a 32-bit frame header, byte 0
its most significant byte (R86), with a payload of zeros of the length it says and a zero checksum byte. -/
def tableInput (nbits w : Nat) : Input :=
  if nbits ≤ 8 then
    .op (wordIssuer (BitVec.ofNat 8 w)) (BitVec.ofNat 8 w) (zeroRecord (BitVec.ofNat 8 w))
  else
    .wire ([BitVec.ofNat 8 (w / 2 ^ 24), BitVec.ofNat 8 (w / 2 ^ 16), BitVec.ofNat 8 (w / 2 ^ 8), BitVec.ofNat 8 w] ++
      List.replicate (w / 2 ^ 16 % 256 + 1) 0)

/-- The instruction that the decoder reads from a table word. -/
def decodeTableWord (nbits w : Nat) : Option Instr :=
  if nbits = 8 then
    match decode (tableInput nbits w) with
    | .ok i => some i
    | .error _ => none
  else if nbits = 32 then
    match tableInput nbits w with
    | .wire bs => decodeFrame bs
    | .op _ _ _ => none
  else none

end Sys2Proof
end

