-- ==== Sys2Proof/Machine/State.lean ====
section
/-! DEFINITION. The state of ZCC-PE (spec/10_state.md R20 to R40), its errors (spec/60_exceptions.md R300), its reset
state (spec/70_reset_and_hazards.md R340), and why a step could stop. -/

namespace Sys2Proof.Machine

open Sys2Proof

/-- R201: the key of a failed lookup. -/
inductive CmdKey where
  | byId (subsystem id : Nat)
  | byName (subsystem : Nat) (name : String)
deriving DecidableEq, Repr

/-- R300, code 11: what a schema walk cannot use. -/
inductive SchemaFault where
  | wrongKind (tag : Nat)
  | missingLength (tag : Nat)
  | missingField (name : String)
  /-- The field whose `derives_length_from` names no prior field (notes/assumptions/19). -/
  | badReference (name : String)
deriving DecidableEq, Repr

/-- R300: the errors, each with its info. -/
inductive Err where
  | checksumMismatch (expected got : Byte)
  | unknownCommand (key : CmdKey)
  | bufferUnderrun (pos n : Nat)
  | unsupportedParameterType (tag : Nat)
  | statusRejected (status : Value)
  | requestTimeout (subsystem : Subsystem) (name : String)
  | invalidCommandType (t : CmdType)
  | reservedCommandType (t : Nat)
  | valueOutOfRange (bits : Nat) (signed : Bool) (n : Int)
  | payloadTooLong (length : Nat)
  | schemaError (sub : SchemaFault)
  | cancelled
  | disconnected
  | illegalOperation (op : Byte)
  | waiterTableFull
  | rxOverflow (length : Nat)
  | badHandle (handle : Nat)
deriving DecidableEq, Repr

/-- R300: the names of the error codes. -/
inductive ErrCode where
  | checksumMismatch
  | unknownCommand
  | bufferUnderrun
  | unsupportedParameterType
  | statusRejected
  | requestTimeout
  | invalidCommandType
  | reservedCommandType
  | valueOutOfRange
  | payloadTooLong
  | schemaError
  | cancelled
  | disconnected
  | illegalOperation
  | waiterTableFull
  | rxOverflow
  | badHandle
deriving DecidableEq, Repr

/-- R28: the phases of a request context. -/
inductive Phase where
  | idle
  | waitGate
  | sent
  | awaitingReply
  | fulfilled
  | timedOut
  | rejected
  | cancelled
  | failed
deriving DecidableEq, Repr

/-- R29: the path of a request. -/
inductive ReqKind where
  | sreqPath
  | resetPath
  | areqPath
deriving DecidableEq, Repr

/-- R29: a request context. `timeout` is absent on the plain AREQ path, where R247 leaves it unused. -/
structure ReqCtx where
  phase : Phase
  obj : CommandObject
  bytes : List Byte
  kind : ReqKind
  expectedStatus : List Int
  wid : Option Nat
  timeout : Option Nat
deriving DecidableEq, Repr

/-- R22: who registered a waiter. -/
inductive Owner where
  | req (rid : Nat)
  | caller
deriving DecidableEq, Repr

/-- R22: a Waiter record. -/
structure Waiter where
  wid : Nat
  ctype : CmdType
  subsystem : Subsystem
  name : String
  matcher : Fields
  deadline : Nat
  owner : Owner
deriving DecidableEq, Repr

/-- R23: the result a slot holds. `timedOut` keeps the waiter's key, the info that R300 gives to the error AWAIT then
returns (notes/assumptions/13). -/
inductive SlotResult where
  | pending
  | fulfilled (obj : CommandObject)
  | timedOut (subsystem : Subsystem) (name : String)
  | cancelled
  | failed
deriving DecidableEq, Repr

/-- R23: a result slot with its `awaited` mark. -/
structure Slot where
  result : SlotResult
  awaited : Bool
deriving DecidableEq, Repr

/-- R26: the issuance gate. -/
inductive Gate where
  | free
  | held (rid : Nat)
deriving DecidableEq, Repr

/-- R36: the outcome of a completion. -/
inductive DoneOutcome where
  | ok (obj : CommandObject)
  | okNone
  | err (e : Err)
deriving DecidableEq, Repr

/-- R36: the handle of a completion. -/
inductive Handle where
  | req (rid : Nat)
  | waiter (wid : Nat)
deriving DecidableEq, Repr

/-- R36: an item of `DONE`. -/
structure Completion where
  handle : Handle
  outcome : DoneOutcome
deriving DecidableEq, Repr

/-- R110, R114, R267: the info of an `RxError`. -/
inductive RxInfo where
  | checksums (expected got : Byte)
  | chunk (length : Nat)
  | frame (subsystem : Subsystem) (commandId : Byte) (commandType : BitVec 3)
deriving DecidableEq, Repr

/-- R36: an item of `EVT`. -/
inductive Event where
  | unsolicited (obj : CommandObject)
  | rxError (code : ErrCode) (info : RxInfo)
  | disconnected
deriving DecidableEq, Repr

/-- R80: the immediate result of an operation. -/
inductive OpResult where
  | none
  | byte (b : Byte)
  | bytes (s : List Byte)
  | read (v : Value) (pos : Nat)
  | object (o : CommandObject)
  | frame (f : Frame)
  | bool (b : Bool)
  | spec (c : CommandSpec)
  | rid (n : Nat)
  | wid (n : Nat)
deriving DecidableEq, Repr

/-- R12: what the operation port returns: a result, an error, or a hold on a waiter (AWAIT, R254). -/
inductive Response where
  | ok (r : OpResult)
  | err (e : Err)
  | hold (wid : Nat)
deriving DecidableEq, Repr

/-- The state: R20 to R32 and the output ports of R36, and last the model's own three fields. -/
structure State where
  /-- R20. -/
  rxbuf : List Byte
  /-- R21: oldest first. -/
  waiters : List Waiter
  /-- R23: by rising wid. -/
  slots : List (Nat × Slot)
  /-- R24. -/
  nextWid : Nat
  /-- R24. -/
  nextRid : Nat
  /-- R25: milliseconds. -/
  now : Nat
  /-- R26. -/
  gate : Gate
  /-- R27: strictly rising. -/
  gateQueue : List Nat
  /-- R28: by rising rid. -/
  reqs : List (Nat × ReqCtx)
  /-- R30. -/
  config : Config
  /-- R31. -/
  cmdTable : List CommandSpec
  /-- R32. -/
  handlers : List String
  /-- R36: port TX, every frame emitted since reset, oldest first. -/
  tx : List (List Byte)
  /-- R36: port EVT. -/
  evt : List Event
  /-- R36: port DONE. -/
  done : List Completion
  /-- The model's own: the outcomes that the operation port has returned (notes/assumptions/2). -/
  ret : List Response
  /-- The model's own: the inputs presented and not yet taken (notes/assumptions/1). -/
  port : List Input
  /-- The model's own: how many free choices have been drawn (notes/assumptions/8). -/
  choice : Nat
deriving DecidableEq, Repr

/-- R340, R343: the block that construction makes from its three arguments. -/
def State.construct (cmdTable : List CommandSpec) (handlers : List String) (config : Config) : State where
  rxbuf := []
  waiters := []
  slots := []
  nextWid := 0
  nextRid := 0
  now := 0
  gate := .free
  gateQueue := []
  reqs := []
  config := config
  cmdTable := cmdTable
  handlers := handlers
  tx := []
  evt := []
  done := []
  ret := []
  port := []
  choice := 0

/-- R340: the machine right after reset, which is its construction, with the default parameters of R7; the open ones
are constants nothing is known of (notes/assumptions 6 and 7). -/
def State.reset : State := .construct Config.defaultTable Config.openHandlers Config.default

/-- Why the machine stops with a fault. There is no such reason: an error of ZCC-PE ends an operation, not the block (R301,
R306), so no step raises a fault (notes/assumptions/31). -/
inductive Fault where
deriving DecidableEq, Repr

/-- Why a step is refused. -/
inductive Refusal where
  /-- An instruction of the opcode table without a meaning: raised by an arm of `exec` only (safe). No arm does so. -/
  | notModelled (mnemonic : String)
deriving DecidableEq, Repr

end Sys2Proof.Machine
end

