-- ==== Sys2Proof/Machine/Maps.lean ====
section
/-! DEFINITION. The finite maps and sets of the state (spec/10_state.md R23, R27, R28; spec/00_scope.md R11) as lists in one
canonical form, keys strictly rising. -/

namespace Sys2Proof.Machine

open Sys2Proof

variable {α : Type}

/-- The value of a key. -/
def FMap.get? (k : Nat) : List (Nat × α) → Option α
  | [] => none
  | (k', v) :: m => if k = k' then some v else FMap.get? k m

/-- The map with the key at the value, in its place. -/
def FMap.set (k : Nat) (v : α) : List (Nat × α) → List (Nat × α)
  | [] => [(k, v)]
  | (k', v') :: m =>
    if k < k' then (k, v) :: (k', v') :: m
    else if k = k' then (k, v) :: m
    else (k', v') :: FMap.set k v m

/-- The map without the key. -/
def FMap.erase (k : Nat) (m : List (Nat × α)) : List (Nat × α) := m.filter (fun e => e.1 != k)

/-- The keys of a map. -/
def FMap.keys (m : List (Nat × α)) : List Nat := m.map (·.1)

/-- Keys strictly rising: the canonical form of a map, and of a set of numbers. -/
def NSet.wf : List Nat → Bool
  | [] => true
  | [_] => true
  | a :: b :: l => decide (a < b) && NSet.wf (b :: l)

/-- The canonical form of a map. -/
def FMap.wf (m : List (Nat × α)) : Bool := NSet.wf (FMap.keys m)

/-- The set with the number in its place. -/
def NSet.insert (k : Nat) : List Nat → List Nat
  | [] => [k]
  | a :: l => if k < a then k :: a :: l else if k = a then a :: l else a :: NSet.insert k l

/-- The set without the number. -/
def NSet.erase (k : Nat) (l : List Nat) : List Nat := l.filter (· != k)

end Sys2Proof.Machine

namespace Sys2Proof

/-- The value of a field name. -/
def Fields.get? (k : String) : Fields → Option Value
  | .nil => none
  | .cons k' v m => if k = k' then some v else m.get? k

/-- The map with the name at the value, in its place. -/
def Fields.set (k : String) (v : Value) : Fields → Fields
  | .nil => .cons k v .nil
  | .cons k' v' m =>
    if k < k' then .cons k v (.cons k' v' m)
    else if k = k' then .cons k v m
    else .cons k' v' (m.set k v)

/-- The fields as a list. -/
def Fields.toList : Fields → List (String × Value)
  | .nil => []
  | .cons k v m => (k, v) :: m.toList

/-- The map that a list of fields writes, a later entry over an earlier one. -/
def Fields.ofList (l : List (String × Value)) : Fields := l.foldl (fun m e => m.set e.1 e.2) .nil

/-- The values as a list. -/
def Values.toList : Values → List Value
  | .nil => []
  | .cons v vs => v :: vs.toList

/-- A list of values as a sequence. -/
def Values.ofList : List Value → Values
  | [] => .nil
  | v :: vs => .cons v (Values.ofList vs)

mutual
/-- The value with every network-address tag dropped (R258: `Nwk(n)` equals `Int(n)`). -/
def Value.untagged : Value → Value
  | .nwk n => .int n.toNat
  | .list vs => .list vs.untagged
  | .record m => .record m.untagged
  | .int n => .int n
  | .eui t => .eui t
  | .bytes s => .bytes s

/-- Each value with its network-address tags dropped. -/
def Values.untagged : Values → Values
  | .nil => .nil
  | .cons v vs => .cons v.untagged vs.untagged

/-- Each field's value with its network-address tags dropped. -/
def Fields.untagged : Fields → Fields
  | .nil => .nil
  | .cons k v m => .cons k v.untagged m.untagged
end

/-- R258, D30: equality of values with the network-address tag ignored. -/
def Value.eqv (a b : Value) : Bool := a.untagged == b.untagged

/-- R205 `intval`: the natural number of an integer or network-address value; absent for any other. -/
def Value.intval : Value → Option Nat
  | .int n => if 0 ≤ n then some n.toNat else none
  | .nwk n => some n.toNat
  | .eui _ => none
  | .bytes _ => none
  | .list _ => none
  | .record _ => none

end Sys2Proof
end

