-- ==== Sys2Proof/Machine/ParameterCodec.lean ====
section
/-! DEFINITION. The Parameter Codec (spec/41_parameter_codec.md R130 to R181): the write and the read of each tag, as pure
functions; a write gives the extended buffer, a read the value and the advanced position, or the error. Within one write the
kinds of the whole value are checked before its ranges (spec/60_exceptions.md R303; notes/assumptions/17). -/

namespace Sys2Proof.Machine

open Sys2Proof

/-! ## Primitives -/

/-- R9 `CursorRead`: `n` bytes at `pos`, or BufferUnderrun with the cursor where it was. -/
def cursorRead (buf : List Byte) (pos n : Nat) : Except Err (List Byte × Nat) :=
  if buf.length < pos + n then .error (.bufferUnderrun pos n) else .ok ((buf.drop pos).take n, pos + n)

/-- R133 `write_int`, for every width that is a multiple of 8. -/
def writeInt (bits : Nat) (signed : Bool) (n : Int) (w : List Byte) : Except Err (List Byte) :=
  if intInRange bits signed n then .ok (w ++ intBytes bits n) else .error (.valueOutOfRange bits signed n)

/-- R133: the integer that bytes read as. -/
def intOfBytes (bits : Nat) (signed : Bool) (s : List Byte) : Int := if signed then sext bits (leValue s) else leValue s

/-- R133 `read_int`. -/
def readInt (bits : Nat) (signed : Bool) (buf : List Byte) (pos : Nat) : Except Err (Int × Nat) :=
  match cursorRead buf pos (bits / 8) with
  | .error e => .error e
  | .ok (s, p) => .ok (intOfBytes bits signed s, p)

/-- R130: the integer of an `Int`; any other kind is wrong. -/
def asInt (tag : Tag) : Value → Except Err Int
  | .int n => .ok n
  | _ => .error (.schemaError (.wrongKind tag.toNat))

/-- R142: the integer of an `Int` or a `Nwk`. -/
def asIntOrNwk (tag : Tag) : Value → Except Err Int
  | .int n => .ok n
  | .nwk n => .ok n.toNat
  | _ => .error (.schemaError (.wrongKind tag.toNat))

/-- R148: the bytes of a `Bytes`. -/
def asBytes (tag : Tag) : Value → Except Err (List Byte)
  | .bytes s => .ok s
  | _ => .error (.schemaError (.wrongKind tag.toNat))

/-- R162: the elements of a `List`. -/
def asList (tag : Tag) : Value → Except Err (List Value)
  | .list vs => .ok vs.toList
  | _ => .error (.schemaError (.wrongKind tag.toNat))

/-- The results of a check on each element in order, or the first error. -/
def checkAll {α β : Type} (f : α → Except Err β) : List α → Except Err (List β)
  | [] => .ok []
  | a :: l =>
    match f a with
    | .error e => .error e
    | .ok b =>
      match checkAll f l with
      | .error e => .error e
      | .ok bs => .ok (b :: bs)

/-- A write of each element in order onto the buffer, or the first error (nothing appended then, R130). -/
def writeAll {α : Type} (f : α → List Byte → Except Err (List Byte)) : List α → List Byte → Except Err (List Byte)
  | [], w => .ok w
  | a :: l, w =>
    match f a w with
    | .error e => .error e
    | .ok w' => writeAll f l w'

/-- R163: `k` elements read in order, or the first error (no partial list). -/
def readMany (f : Nat → Except Err (Value × Nat)) : Nat → Nat → Except Err (Values × Nat)
  | 0, pos => .ok (.nil, pos)
  | k + 1, pos =>
    match f pos with
    | .error e => .error e
    | .ok (v, p) =>
      match readMany f k p with
      | .error e => .error e
      | .ok (vs, p') => .ok (.cons v vs, p')

/-! ## Shapes shared by several tags -/

/-- R140, R144, R176 to R180: an integer tag whose value is an `Int`. -/
def writeIntTag (tag : Tag) (bits : Nat) (signed : Bool) (v : Value) (w : List Byte) : Except Err (List Byte) :=
  match asInt tag v with
  | .error e => .error e
  | .ok n => writeInt bits signed n w

/-- R141, R145, R177 to R181: an integer tag read as an `Int`. -/
def readIntTag (bits : Nat) (signed : Bool) (buf : List Byte) (pos : Nat) : Except Err (Value × Nat) :=
  match readInt bits signed buf pos with
  | .error e => .error e
  | .ok (n, p) => .ok (.int n, p)

/-- R148, R150: a buffer tag writes its bytes verbatim, unprefixed and unchecked. -/
def writeBytesTag (tag : Tag) (v : Value) (w : List Byte) : Except Err (List Byte) :=
  match asBytes tag v with
  | .error e => .error e
  | .ok s => .ok (w ++ s)

/-- R149, R151: a buffer of `n` bytes. -/
def readBytesTag (n : Nat) (buf : List Byte) (pos : Nat) : Except Err (Value × Nat) :=
  match cursorRead buf pos n with
  | .error e => .error e
  | .ok (s, p) => .ok (.bytes s, p)

/-- R162, R164, R174: a list of unsigned integers, each element's kind checked by `el`. -/
def writeIntList (el : Value → Except Err Int) (tag : Tag) (bits : Nat) (v : Value) (w : List Byte) :
    Except Err (List Byte) :=
  match asList tag v with
  | .error e => .error e
  | .ok vs =>
    match checkAll el vs with
    | .error e => .error e
    | .ok ns => writeAll (writeInt bits false) ns w

/-- `k` elements read by `f` as a list value. -/
def readList (f : Nat → Except Err (Value × Nat)) (k pos : Nat) : Except Err (Value × Nat) :=
  match readMany f k pos with
  | .error e => .error e
  | .ok (vs, p) => .ok (.list vs, p)

/-- R131: the length option, which the tag needs. -/
def needLength (tag : Tag) (o : ReadOpts) : Except Err Nat :=
  match o.length with
  | some k => .ok k
  | none => .error (.schemaError (.missingLength tag.toNat))

/-- R131, R163: a list whose element count is the length option. -/
def readCounted (tag : Tag) (f : Nat → Except Err (Value × Nat)) (o : ReadOpts) (pos : Nat) :
    Except Err (Value × Nat) :=
  match needLength tag o with
  | .error e => .error e
  | .ok k => readList f k pos

/-! ## Record layouts (R134) -/

/-- A layout item with its values looked up and their kinds checked. -/
inductive ItemValue where
  | num (bits : Nat) (n : Int)
  | eui (t : Eui)
  | packed (fs : List (BitField × Int))
deriving DecidableEq, Repr

/-- R134: the value of a name, which must be there. -/
def fieldOf (m : Fields) (name : String) : Except Err Value :=
  match m.get? name with
  | some v => .ok v
  | none => .error (.schemaError (.missingField name))

/-- R134: the integer of a name, `Int` or `Nwk`. -/
def intFieldOf (tag : Tag) (m : Fields) (name : String) : Except Err Int :=
  match fieldOf m name with
  | .error e => .error e
  | .ok v => asIntOrNwk tag v

/-- R134: the values of one item, kinds checked. -/
def resolveItem (tag : Tag) (m : Fields) : LayoutItem → Except Err ItemValue
  | .u8 name =>
    match intFieldOf tag m name with
    | .error e => .error e
    | .ok n => .ok (.num 8 n)
  | .u16 name =>
    match intFieldOf tag m name with
    | .error e => .error e
    | .ok n => .ok (.num 16 n)
  | .eui name =>
    match fieldOf m name with
    | .error e => .error e
    | .ok (.eui t) => .ok (.eui t)
    | .ok _ => .error (.schemaError (.wrongKind tag.toNat))
  | .packed fs =>
    match checkAll (fun f => intFieldOf tag m f.name) fs with
    | .error e => .error e
    | .ok ns => .ok (.packed (fs.zip ns))

/-- R134: an element is a `Rec` that has every name of the layout, each of the item's kind. -/
def resolveRecord (tag : Tag) (layout : Layout) : Value → Except Err (List ItemValue)
  | .record m => checkAll (resolveItem tag m) layout
  | _ => .error (.schemaError (.wrongKind tag.toNat))

/-- R134: one packed field, in `0 .. 2^(hi-lo+1) - 1`, or'ed in at `lo`. -/
def packField (f : BitField) (n : Int) (acc : Byte) : Except Err Byte :=
  if intInRange (f.hi + 1 - f.lo) false n then .ok (acc ||| BitVec.ofNat 8 (n.toNat <<< f.lo))
  else .error (.valueOutOfRange (f.hi + 1 - f.lo) false n)

/-- R134: the packed byte, bits that no field covers written 0. -/
def packByte : List (BitField × Int) → Byte → Except Err Byte
  | [], acc => .ok acc
  | (f, n) :: l, acc =>
    match packField f n acc with
    | .error e => .error e
    | .ok b => packByte l b

/-- R134: one item written. -/
def writeItem : ItemValue → List Byte → Except Err (List Byte)
  | .num bits n, w => writeInt bits false n w
  | .eui t, w => .ok (w ++ euiBytes t)
  | .packed fs, w =>
    match packByte fs 0 with
    | .error e => .error e
    | .ok b => .ok (w ++ [b])

/-- R166 to R172: a record list written by a layout; no count is written. -/
def writeRecordList (tag : Tag) (layout : Layout) (v : Value) (w : List Byte) : Except Err (List Byte) :=
  match asList tag v with
  | .error e => .error e
  | .ok vs =>
    match checkAll (resolveRecord tag layout) vs with
    | .error e => .error e
    | .ok rs => writeAll (writeAll writeItem) rs w

/-- R134: the fields of a packed byte, each an `Int`. -/
def unpackByte (b : Byte) (fs : List BitField) (m : Fields) : Fields :=
  fs.foldl (fun m f => m.set f.name (.int (bitField b f.hi f.lo))) m

/-- R134: one item read into the record so far. -/
def readItem (buf : List Byte) (pos : Nat) (m : Fields) : LayoutItem → Except Err (Fields × Nat)
  | .u8 name =>
    match readInt 8 false buf pos with
    | .error e => .error e
    | .ok (n, p) => .ok (m.set name (.int n), p)
  | .u16 name =>
    match readInt 16 false buf pos with
    | .error e => .error e
    | .ok (n, p) => .ok (m.set name (.int n), p)
  | .eui name =>
    match cursorRead buf pos 8 with
    | .error e => .error e
    | .ok (s, p) =>
      match euiOfBytes s with
      | some t => .ok (m.set name (.eui t), p)
      | none => .error (.bufferUnderrun pos 8)
  | .packed fs =>
    match cursorRead buf pos 1 with
    | .error e => .error e
    | .ok (s, p) => .ok (unpackByte (s.headD 0) fs m, p)

/-- R134: the items of an element read in order. -/
def readItems (buf : List Byte) : Layout → Nat → Fields → Except Err (Fields × Nat)
  | [], pos, m => .ok (m, pos)
  | i :: l, pos, m =>
    match readItem buf pos m i with
    | .error e => .error e
    | .ok (m', p) => readItems buf l p m'

/-- R134: one element read. -/
def readRecord (layout : Layout) (buf : List Byte) (pos : Nat) : Except Err (Value × Nat) :=
  match readItems buf layout pos .nil with
  | .error e => .error e
  | .ok (m, p) => .ok (.record m, p)

/-! ## The writes (R140 to R180) -/

/-- R140. -/
def pwriteUint8 (v : Value) (w : List Byte) : Except Err (List Byte) := writeIntTag .uint8 8 false v w

/-- R142: `Int(n)` and `Nwk(n)` give the same bytes. -/
def pwriteUint16 (v : Value) (w : List Byte) : Except Err (List Byte) :=
  match asIntOrNwk .uint16 v with
  | .error e => .error e
  | .ok n => writeInt 16 false n w

/-- R144. -/
def pwriteUint32 (v : Value) (w : List Byte) : Except Err (List Byte) := writeIntTag .uint32 32 false v w

/-- R146. -/
def pwriteIeeeaddr (v : Value) (w : List Byte) : Except Err (List Byte) :=
  match v with
  | .eui t => .ok (w ++ euiBytes t)
  | _ => .error (.schemaError (.wrongKind Tag.ieeeaddr.toNat))

/-- R148. -/
def pwriteBuffer (v : Value) (w : List Byte) : Except Err (List Byte) := writeBytesTag .buffer v w

/-- R150. -/
def pwriteBuffer8 (v : Value) (w : List Byte) : Except Err (List Byte) := writeBytesTag .buffer8 v w

/-- R152. -/
def pwriteBuffer16 (v : Value) (w : List Byte) : Except Err (List Byte) := writeBytesTag .buffer16 v w

/-- R154. -/
def pwriteBuffer18 (v : Value) (w : List Byte) : Except Err (List Byte) := writeBytesTag .buffer18 v w

/-- R156. -/
def pwriteBuffer32 (v : Value) (w : List Byte) : Except Err (List Byte) := writeBytesTag .buffer32 v w

/-- R158. -/
def pwriteBuffer42 (v : Value) (w : List Byte) : Except Err (List Byte) := writeBytesTag .buffer42 v w

/-- R160. -/
def pwriteBuffer100 (v : Value) (w : List Byte) : Except Err (List Byte) := writeBytesTag .buffer100 v w

/-- R162. -/
def pwriteListUint8 (v : Value) (w : List Byte) : Except Err (List Byte) :=
  writeIntList (asInt .listUint8) .listUint8 8 v w

/-- R164. -/
def pwriteListUint16 (v : Value) (w : List Byte) : Except Err (List Byte) :=
  writeIntList (asIntOrNwk .listUint16) .listUint16 16 v w

/-- R166. -/
def pwriteListRoutingTable (cfg : Config) (v : Value) (w : List Byte) : Except Err (List Byte) :=
  writeRecordList .listRoutingTable cfg.layoutRouting v w

/-- R168. -/
def pwriteListBindTable (cfg : Config) (v : Value) (w : List Byte) : Except Err (List Byte) :=
  writeRecordList .listBindTable cfg.layoutBind v w

/-- R170. -/
def pwriteListNeighborLqi (cfg : Config) (v : Value) (w : List Byte) : Except Err (List Byte) :=
  writeRecordList .listNeighborLqi cfg.layoutNeighbor v w

/-- R172. -/
def pwriteListNetwork (cfg : Config) (v : Value) (w : List Byte) : Except Err (List Byte) :=
  writeRecordList .listNetwork cfg.layoutNetwork v w

/-- R174: no count and no start index is written. -/
def pwriteListAssocDev (v : Value) (w : List Byte) : Except Err (List Byte) :=
  writeIntList (asIntOrNwk .listAssocDev) .listAssocDev 16 v w

/-- R176. -/
def pwriteInt8 (v : Value) (w : List Byte) : Except Err (List Byte) := writeIntTag .int8 8 true v w

/-- R178. -/
def pwriteInt16 (v : Value) (w : List Byte) : Except Err (List Byte) := writeIntTag .int16 16 true v w

/-- R180. -/
def pwriteInt32 (v : Value) (w : List Byte) : Except Err (List Byte) := writeIntTag .int32 32 true v w

/-! ## The reads (R141 to R181) -/

/-- R141. -/
def preadUint8 (buf : List Byte) (pos : Nat) : Except Err (Value × Nat) := readIntTag 8 false buf pos

/-- R143: tagged as a network address when `is_address` is set. -/
def preadUint16 (o : ReadOpts) (buf : List Byte) (pos : Nat) : Except Err (Value × Nat) :=
  match readInt 16 false buf pos with
  | .error e => .error e
  | .ok (n, p) => .ok (if o.isAddress then .nwk (BitVec.ofInt 16 n) else .int n, p)

/-- R145. -/
def preadUint32 (buf : List Byte) (pos : Nat) : Except Err (Value × Nat) := readIntTag 32 false buf pos

/-- R147. -/
def preadIeeeaddr (buf : List Byte) (pos : Nat) : Except Err (Value × Nat) :=
  match cursorRead buf pos 8 with
  | .error e => .error e
  | .ok (s, p) =>
    match euiOfBytes s with
    | some t => .ok (.eui t, p)
    | none => .error (.bufferUnderrun pos 8)

/-- R149: the generic buffer, `opts.length` bytes. -/
def preadBuffer (o : ReadOpts) (buf : List Byte) (pos : Nat) : Except Err (Value × Nat) :=
  match needLength .buffer o with
  | .error e => .error e
  | .ok n => readBytesTag n buf pos

/-- R151. -/
def preadBuffer8 (buf : List Byte) (pos : Nat) : Except Err (Value × Nat) := readBytesTag 8 buf pos

/-- R153. -/
def preadBuffer16 (buf : List Byte) (pos : Nat) : Except Err (Value × Nat) := readBytesTag 16 buf pos

/-- R155. -/
def preadBuffer18 (buf : List Byte) (pos : Nat) : Except Err (Value × Nat) := readBytesTag 18 buf pos

/-- R157. -/
def preadBuffer32 (buf : List Byte) (pos : Nat) : Except Err (Value × Nat) := readBytesTag 32 buf pos

/-- R159. -/
def preadBuffer42 (buf : List Byte) (pos : Nat) : Except Err (Value × Nat) := readBytesTag 42 buf pos

/-- R161. -/
def preadBuffer100 (buf : List Byte) (pos : Nat) : Except Err (Value × Nat) := readBytesTag 100 buf pos

/-- R163. -/
def preadListUint8 (o : ReadOpts) (buf : List Byte) (pos : Nat) : Except Err (Value × Nat) :=
  readCounted .listUint8 (readIntTag 8 false buf) o pos

/-- R165: elements are plain `Int`. -/
def preadListUint16 (o : ReadOpts) (buf : List Byte) (pos : Nat) : Except Err (Value × Nat) :=
  readCounted .listUint16 (readIntTag 16 false buf) o pos

/-- R167. -/
def preadListRoutingTable (cfg : Config) (o : ReadOpts) (buf : List Byte) (pos : Nat) : Except Err (Value × Nat) :=
  readCounted .listRoutingTable (readRecord cfg.layoutRouting buf) o pos

/-- R169. -/
def preadListBindTable (cfg : Config) (o : ReadOpts) (buf : List Byte) (pos : Nat) : Except Err (Value × Nat) :=
  readCounted .listBindTable (readRecord cfg.layoutBind buf) o pos

/-- R171. -/
def preadListNeighborLqi (cfg : Config) (o : ReadOpts) (buf : List Byte) (pos : Nat) : Except Err (Value × Nat) :=
  readCounted .listNeighborLqi (readRecord cfg.layoutNeighbor buf) o pos

/-- R173. -/
def preadListNetwork (cfg : Config) (o : ReadOpts) (buf : List Byte) (pos : Nat) : Except Err (Value × Nat) :=
  readCounted .listNetwork (readRecord cfg.layoutNetwork buf) o pos

/-- R139: `ASSOC_COUNT`; natural subtraction is `max(0, length - start_index)`. -/
def assocCount (cfg : Config) (length startIndex : Nat) : Nat :=
  match cfg.assocCount with
  | .lengthMinusStart => length - startIndex
  | .other k => Config.otherAssocCount k length startIndex

/-- R175: both options are needed; no byte is read for the start index (90_conflicts.md C4). -/
def preadListAssocDev (cfg : Config) (o : ReadOpts) (buf : List Byte) (pos : Nat) : Except Err (Value × Nat) :=
  match o.length, o.startIndex with
  | some n, some i => readList (readIntTag 16 false buf) (assocCount cfg n i) pos
  | _, _ => .error (.schemaError (.missingLength Tag.listAssocDev.toNat))

/-- R177. -/
def preadInt8 (buf : List Byte) (pos : Nat) : Except Err (Value × Nat) := readIntTag 8 true buf pos

/-- R179. -/
def preadInt16 (buf : List Byte) (pos : Nat) : Except Err (Value × Nat) := readIntTag 16 true buf pos

/-- R181. -/
def preadInt32 (buf : List Byte) (pos : Nat) : Except Err (Value × Nat) := readIntTag 32 true buf pos

/-! ## By tag number, for the schema walks (R83, R205, R206) -/

/-- R130: the write of a tag. -/
def pwriteTag (cfg : Config) (t : Tag) (v : Value) (w : List Byte) : Except Err (List Byte) :=
  match t with
  | .uint8 => pwriteUint8 v w
  | .uint16 => pwriteUint16 v w
  | .uint32 => pwriteUint32 v w
  | .ieeeaddr => pwriteIeeeaddr v w
  | .buffer => pwriteBuffer v w
  | .buffer8 => pwriteBuffer8 v w
  | .buffer16 => pwriteBuffer16 v w
  | .buffer18 => pwriteBuffer18 v w
  | .buffer32 => pwriteBuffer32 v w
  | .buffer42 => pwriteBuffer42 v w
  | .buffer100 => pwriteBuffer100 v w
  | .listUint8 => pwriteListUint8 v w
  | .listUint16 => pwriteListUint16 v w
  | .listRoutingTable => pwriteListRoutingTable cfg v w
  | .listBindTable => pwriteListBindTable cfg v w
  | .listNeighborLqi => pwriteListNeighborLqi cfg v w
  | .listNetwork => pwriteListNetwork cfg v w
  | .listAssocDev => pwriteListAssocDev v w
  | .int8 => pwriteInt8 v w
  | .int16 => pwriteInt16 v w
  | .int32 => pwriteInt32 v w

/-- R131: the read of a tag. -/
def preadTag (cfg : Config) (t : Tag) (o : ReadOpts) (buf : List Byte) (pos : Nat) : Except Err (Value × Nat) :=
  match t with
  | .uint8 => preadUint8 buf pos
  | .uint16 => preadUint16 o buf pos
  | .uint32 => preadUint32 buf pos
  | .ieeeaddr => preadIeeeaddr buf pos
  | .buffer => preadBuffer o buf pos
  | .buffer8 => preadBuffer8 buf pos
  | .buffer16 => preadBuffer16 buf pos
  | .buffer18 => preadBuffer18 buf pos
  | .buffer32 => preadBuffer32 buf pos
  | .buffer42 => preadBuffer42 buf pos
  | .buffer100 => preadBuffer100 buf pos
  | .listUint8 => preadListUint8 o buf pos
  | .listUint16 => preadListUint16 o buf pos
  | .listRoutingTable => preadListRoutingTable cfg o buf pos
  | .listBindTable => preadListBindTable cfg o buf pos
  | .listNeighborLqi => preadListNeighborLqi cfg o buf pos
  | .listNetwork => preadListNetwork cfg o buf pos
  | .listAssocDev => preadListAssocDev cfg o buf pos
  | .int8 => preadInt8 buf pos
  | .int16 => preadInt16 buf pos
  | .int32 => preadInt32 buf pos

/-- R83, R130: the write of a tag number; one that has no rule raises UnsupportedParameterType. -/
def pwrite (cfg : Config) (tag : Nat) (v : Value) (w : List Byte) : Except Err (List Byte) :=
  match Tag.ofNat? tag with
  | some t => pwriteTag cfg t v w
  | none => .error (.unsupportedParameterType tag)

/-- R83, R131: the read of a tag number. -/
def pread (cfg : Config) (tag : Nat) (o : ReadOpts) (buf : List Byte) (pos : Nat) : Except Err (Value × Nat) :=
  match Tag.ofNat? tag with
  | some t => preadTag cfg t o buf pos
  | none => .error (.unsupportedParameterType tag)

end Sys2Proof.Machine
end

