-- ==== Sys2Proof/Machine/CommandCodec.lean ====
section
/-! DEFINITION. The pure part of the Frame Codec, the Command Table and the Command Object unit (spec/40_frame_codec.md R100 to
R102, R115; spec/42_command_object.md R200 to R215): they read only their operands, `CONFIG` and `CMD_TABLE` (R40). -/

namespace Sys2Proof.Machine

open Sys2Proof

/-! ## Frames -/

/-- R101 `FRAME_ENCODE`: the type is checked before the length (R303). -/
def frameEncode (ctype subsystem commandId : Nat) (payload : List Byte) : Except Err (List Byte) :=
  if 3 < ctype then .error (.reservedCommandType ctype)
  else if 255 < payload.length then .error (.payloadTooLong payload.length)
  else
    .ok (wireBytes (BitVec.ofNat 8 payload.length) (cmd0 ctype subsystem) (BitVec.ofNat 8 commandId) payload
      (xorfold ([BitVec.ofNat 8 payload.length, cmd0 ctype subsystem, BitVec.ofNat 8 commandId] ++ payload)))

/-- R102: the encoding of a Frame value; its length and checksum fields are recomputed, not copied. -/
def encodeFrame (f : Frame) : Except Err (List Byte) :=
  frameEncode f.commandType.toNat f.subsystem.toNat f.commandId.toNat f.payload

/-- R115: the Frame of an extracted frame of `n` bytes. -/
def parseFrame (f : List Byte) : Frame where
  commandType := cmd0Type (f.getD 2 0)
  subsystem := cmd0Subsystem (f.getD 2 0)
  commandId := f.getD 3 0
  payload := (f.drop 4).take (f.length - 5)
  length := f.getD 1 0
  checksum := f.getD (f.length - 1) 0

/-! ## The Command Table -/

/-- R202: the entry of a wire id; the command type takes no part. -/
def lookupById (tbl : List CommandSpec) (subsystem wireId : Nat) : Except Err CommandSpec :=
  match tbl.find? (fun e => e.subsystem.toNat == subsystem && e.wireId.toNat == wireId) with
  | some e => .ok e
  | none => .error (.unknownCommand (.byId subsystem wireId))

/-- R203: the entry of a name, compared exactly. -/
def lookupByName (tbl : List CommandSpec) (subsystem : Nat) (name : String) : Except Err CommandSpec :=
  match tbl.find? (fun e => e.subsystem.toNat == subsystem && e.name == name) with
  | some e => .ok e
  | none => .error (.unknownCommand (.byName subsystem name))

/-- R207, R209: the schema of an entry for a command type. -/
def schemaFor (e : CommandSpec) (t : CmdType) : Schema := if t = .srsp then e.responseSchema else e.requestSchema

/-! ## Schema walks -/

/-- R205: the index of a field's length source among the fields before it: the one it names, or the field immediately before
it; a name that is no prior field is a BadReference. -/
def lengthSource (before : Schema) (p : ParameterSpec) : Except Err (Option Nat) :=
  match p.derivesLengthFrom with
  | none => .ok (if before.length = 0 then none else some (before.length - 1))
  | some name =>
    match before.findIdx? (fun q => q.name == name) with
    | some j => .ok (some j)
    | none => .error (.schemaError (.badReference p.name))

/-- R205: the natural number that a prior field decoded to, if it is one. -/
def priorInt (before : Schema) (result : Fields) (j : Nat) : Option Nat :=
  match before[j]? with
  | none => none
  | some q =>
    match result.get? q.name with
    | none => none
    | some v => v.intval

/-- R205: the options threaded to a field whose length source is `j`. -/
def threadedOpts (before : Schema) (result : Fields) (p : ParameterSpec) (j : Option Nat) : ReadOpts where
  length :=
    match j with
    | none => none
    | some j => priorInt before result j
  startIndex :=
    match j with
    | none => none
    | some 0 => none
    | some (j + 1) => priorInt before result j
  isAddress := p.isAddress

/-- R205: the walk over the fields not yet decoded, `before` the fields already decoded. -/
def readWalk (cfg : Config) (bytes : List Byte) : Schema → Schema → Nat → Fields → Except Err Fields
  | [], _, _, result => .ok result
  | p :: rest, before, pos, result =>
    match lengthSource before p with
    | .error e => .error e
    | .ok j =>
      match pread cfg p.typeTag (threadedOpts before result p j) bytes pos with
      | .error e => .error e
      | .ok (v, pos') => readWalk cfg bytes rest (before ++ [p]) pos' (result.set p.name v)

/-- R205 `readSchema`: bytes after the last field are ignored (D19). -/
def readSchema (cfg : Config) (schema : Schema) (bytes : List Byte) : Except Err Fields :=
  readWalk cfg bytes schema [] 0 .nil

/-- R206: the encode walk onto a buffer. -/
def writeWalk (cfg : Config) (payload : Fields) : Schema → List Byte → Except Err (List Byte)
  | [], w => .ok w
  | p :: rest, w =>
    match payload.get? p.name with
    | none => .error (.schemaError (.missingField p.name))
    | some v =>
      match pwrite cfg p.typeTag v w with
      | .error e => .error e
      | .ok w' => writeWalk cfg payload rest w'

/-- R206 `writeSchema`: payload keys that are not in the schema are ignored (D20). -/
def writeSchema (cfg : Config) (schema : Schema) (payload : Fields) : Except Err (List Byte) :=
  writeWalk cfg payload schema []

/-! ## Command objects -/

/-- R207 `FROM_FRAME`. -/
def fromFrame (tbl : List CommandSpec) (cfg : Config) (f : Frame) : Except Err CommandObject :=
  match CmdType.ofNat? f.commandType.toNat with
  | none => .error (.reservedCommandType f.commandType.toNat)
  | some t =>
    match lookupById tbl f.subsystem.toNat f.commandId.toNat with
    | .error e => .error e
    | .ok spec =>
      match readSchema cfg (schemaFor spec t) f.payload with
      | .error e => .error e
      | .ok payload =>
        .ok { commandType := t, subsystem := f.subsystem, name := spec.name, wireId := f.commandId, payload := payload,
              schemaUsed := schemaFor spec t, correlationTag := none }

/-- R208 `TO_FRAME`: the command type is the object's (90_conflicts.md C2). -/
def toFrame (cfg : Config) (o : CommandObject) : Except Err Frame :=
  match writeSchema cfg o.schemaUsed o.payload with
  | .error e => .error e
  | .ok bytes =>
    if 255 < bytes.length then .error (.payloadTooLong bytes.length)
    else
      .ok { commandType := o.commandType.toBits, subsystem := o.subsystem, commandId := o.wireId, payload := bytes,
            length := BitVec.ofNat 8 bytes.length,
            checksum := xorfold ([BitVec.ofNat 8 bytes.length, cmd0 o.commandType.toBits.toNat o.subsystem.toNat, o.wireId] ++ bytes) }

/-- R209 `FROM_COMMAND`: the payload is bound unchecked. -/
def fromCommand (tbl : List CommandSpec) (subsystem : Nat) (name : String) (payload : Fields) :
    Except Err CommandObject :=
  match lookupByName tbl subsystem name with
  | .error e => .error e
  | .ok spec =>
    .ok { commandType := spec.direction, subsystem := spec.subsystem, name := spec.name, wireId := spec.wireId,
          payload := payload, schemaUsed := schemaFor spec spec.direction, correlationTag := none }

/-- R210: the fixed field set of the data-transmission command. Its field names are fixed here (notes/assumptions/34). -/
def dataRequestPayload (cfg : Config) (dst cluster srcEp dstEp tsn : Nat) (data : List Byte) : Fields :=
  Fields.ofList
    [("dstaddr", .nwk (BitVec.ofNat 16 dst)), ("destendpoint", .int dstEp), ("srcendpoint", .int srcEp),
     ("clusterid", .int cluster), ("transid", .int tsn), ("options", .int cfg.afOptions.toNat),
     ("radius", .int cfg.afRadius.toNat), ("len", .int data.length), ("data", .bytes data)]

/-- R210: the application path. The command's name is fixed here (notes/assumptions/34). -/
def fromClusterData (tbl : List CommandSpec) (cfg : Config) (dst cluster srcEp dstEp tsn : Nat) (data : List Byte) :
    Except Err CommandObject :=
  match lookupByName tbl Subsys.af.toNat "dataRequest" with
  | .error e => .error e
  | .ok spec =>
    .ok { commandType := spec.direction, subsystem := Subsys.af, name := "dataRequest", wireId := spec.wireId,
          payload := dataRequestPayload cfg dst cluster srcEp dstEp tsn data,
          schemaUsed := spec.requestSchema, correlationTag := some tsn }

/-- R212: whether a call is the broadcast-permit-join special case. -/
def isBcastPermitJoin (cfg : Config) (dst cluster : Nat) : Bool :=
  cfg.bcastPermitJoin.contains (BitVec.ofNat 16 dst, BitVec.ofNat 16 cluster)

/-- R211, R212: the bytes of the discovery path, the destination address little-endian ahead of the data, and in the special
case the address-mode byte ahead of both. -/
def discoveryBytes (cfg : Config) (dst cluster : Nat) (data : List Byte) : List Byte :=
  (if isBcastPermitJoin cfg dst cluster then [cfg.pjAddrMode] else []) ++ leBytes 2 dst ++ data

/-- R211: the discovery path. -/
def fromClusterDiscovery (tbl : List CommandSpec) (cfg : Config) (dst cluster tsn : Nat) (data : List Byte) :
    Except Err CommandObject :=
  if 255 < cluster then .error (.unknownCommand (.byId Subsys.zdo.toNat cluster))
  else
    match lookupById tbl Subsys.zdo.toNat cluster with
    | .error e => .error e
    | .ok spec =>
      match readSchema cfg spec.requestSchema (discoveryBytes cfg dst cluster data) with
      | .error e => .error e
      | .ok payload =>
        .ok { commandType := spec.direction, subsystem := Subsys.zdo, name := spec.name, wireId := BitVec.ofNat 8 cluster,
              payload := payload, schemaUsed := spec.requestSchema, correlationTag := some tsn }

/-- R210, R211 `FROM_CLUSTER`. -/
def fromCluster (tbl : List CommandSpec) (cfg : Config) (dst profile cluster srcEp dstEp tsn : Nat) (data : List Byte) :
    Except Err CommandObject :=
  if profile = cfg.zdoProfile.toNat then fromClusterDiscovery tbl cfg dst cluster tsn data
  else fromClusterData tbl cfg dst cluster srcEp dstEp tsn data

/-- R213 `IS_RESET_COMMAND`: the command type is not tested. -/
def isResetCommand (o : CommandObject) : Bool :=
  (o.subsystem == Subsys.sys && o.name == "resetReq") || (o.subsystem == Subsys.sapi && o.name == "systemReset")

end Sys2Proof.Machine
end

