-- ==== Sys2Proof/Machine/Ops.lean ====
section
/-! DEFINITION. The named operations over the state that every family shares: emissions (spec/10_state.md R36), the outcome of an
operation (spec/00_scope.md R12), raising an error (spec/60_exceptions.md R301), and the writes of slots, waiters and request contexts. -/

namespace Sys2Proof.Machine

open Sys2Proof

/-! ## Emissions and outcomes -/

/-- R36: a frame emitted on `TX`. -/
def emitTx (frame : List Byte) (s : State) : State := { s with tx := s.tx ++ [frame] }

/-- R36: an event emitted on `EVT`. -/
def emitEvt (e : Event) (s : State) : State := { s with evt := s.evt ++ [e] }

/-- R36: a completion posted on `DONE`. -/
def emitDone (h : Handle) (o : DoneOutcome) (s : State) : State := { s with done := s.done ++ [⟨h, o⟩] }

/-- R12: an outcome returned on the operation port. -/
def respond (r : Response) (s : State) : State := { s with ret := s.ret ++ [r] }

/-- R301: an error ends its operation: it writes no state (R53) and is returned to the caller. This is all there is to taking an
exception: nothing is saved, no mode changes, control goes nowhere (R306), and there is no return from it (R307). -/
def raise (e : Err) (s : State) : State := respond (.err e) s

/-- The outcome of an operation that only returns a value: the value, or the error it ends in. -/
def answer (r : Except Err OpResult) (s : State) : State :=
  match r with
  | .ok v => respond (.ok v) s
  | .error e => raise e s

/-- R80, R303: the operands are checked before anything else; one out of range ends the operation with IllegalOperation. -/
def checked (op : Byte) (ok : Bool) (f : State → State) (s : State) : State :=
  if ok then f s else raise (.illegalOperation op) s

/-! ## Errors as codes -/

/-- R300: the code of an error. -/
def Err.code : Err → ErrCode
  | .checksumMismatch _ _ => .checksumMismatch
  | .unknownCommand _ => .unknownCommand
  | .bufferUnderrun _ _ => .bufferUnderrun
  | .unsupportedParameterType _ => .unsupportedParameterType
  | .statusRejected _ => .statusRejected
  | .requestTimeout _ _ => .requestTimeout
  | .invalidCommandType _ => .invalidCommandType
  | .reservedCommandType _ => .reservedCommandType
  | .valueOutOfRange _ _ _ => .valueOutOfRange
  | .payloadTooLong _ => .payloadTooLong
  | .schemaError _ => .schemaError
  | .cancelled => .cancelled
  | .disconnected => .disconnected
  | .illegalOperation _ => .illegalOperation
  | .waiterTableFull => .waiterTableFull
  | .rxOverflow _ => .rxOverflow
  | .badHandle _ => .badHandle

/-- R300: the number of a code. -/
def ErrCode.number : ErrCode → Nat
  | .checksumMismatch => 1
  | .unknownCommand => 2
  | .bufferUnderrun => 3
  | .unsupportedParameterType => 4
  | .statusRejected => 5
  | .requestTimeout => 6
  | .invalidCommandType => 7
  | .reservedCommandType => 8
  | .valueOutOfRange => 9
  | .payloadTooLong => 10
  | .schemaError => 11
  | .cancelled => 12
  | .disconnected => 13
  | .illegalOperation => 14
  | .waiterTableFull => 15
  | .rxOverflow => 16
  | .badHandle => 17

/-- R81, R83: the error of an input that is no instruction. -/
def Reject.toErr : Reject → Err
  | .illegalWord op => .illegalOperation op
  | .internalWord op => .illegalOperation op
  | .badOperands op => .illegalOperation op
  | .tagWithoutRule tag => .unsupportedParameterType tag

/-! ## Slots, waiters, request contexts -/

/-- R23: a slot written. -/
def setSlot (wid : Nat) (sl : Slot) (s : State) : State := { s with slots := FMap.set wid sl s.slots }

/-- R23: a slot deleted. -/
def deleteSlot (wid : Nat) (s : State) : State := { s with slots := FMap.erase wid s.slots }

/-- R21: a waiter removed from the pending set. -/
def removeWaiter (wid : Nat) (s : State) : State := { s with waiters := s.waiters.filter (fun x => x.wid != wid) }

/-- R28: a request context written. -/
def setReq (rid : Nat) (c : ReqCtx) (s : State) : State := { s with reqs := FMap.set rid c s.reqs }

/-- R28: a request context deleted. -/
def deleteReq (rid : Nat) (s : State) : State := { s with reqs := FMap.erase rid s.reqs }

/-- R9 `phase(rid) <- p`. -/
def setPhase (rid : Nat) (p : Phase) (s : State) : State :=
  match FMap.get? rid s.reqs with
  | some c => setReq rid { c with phase := p } s
  | none => s

/-- R251: the gate becomes free when the request that holds it completes. -/
def releaseGate (rid : Nat) (s : State) : State := if s.gate = .held rid then { s with gate := .free } else s

/-- R27: a request leaves the set of those held for the gate. -/
def unqueue (rid : Nat) (s : State) : State := { s with gateQueue := NSet.erase rid s.gateQueue }

end Sys2Proof.Machine
end

