-- ==== Sys2Proof/Machine/Correlation.lean ====
section
/-! DEFINITION. The shared operations of the Request Engine (spec/43_request_engine.md): registration, matching, settling a
waiter, completing a request, issuing it, the gate's choice, and the receive path from a Frame to its waiter. -/

namespace Sys2Proof.Machine

open Sys2Proof

/-- R265 `register`: the waiter's handle and the state with it, or WaiterTableFull. -/
def register (ctype : CmdType) (subsystem : Subsystem) (name : String) (matcher : Fields) (timeout : Nat) (owner : Owner)
    (s : State) : Except Err (Nat × State) :=
  if s.config.waiterCap = some s.waiters.length then .error .waiterTableFull
  else
    .ok (s.nextWid,
      { s with
        nextWid := s.nextWid + 1
        waiters := s.waiters ++ [⟨s.nextWid, ctype, subsystem, name, matcher, s.now + timeout, owner⟩]
        slots := FMap.set s.nextWid ⟨.pending, false⟩ s.slots })

/-- R258: every key of the matcher is in the payload, with an equal value. -/
def matcherHolds (payload : Fields) : Fields → Bool
  | .nil => true
  | .cons k v m =>
    (match payload.get? k with
      | some v' => v.eqv v'
      | none => false) && matcherHolds payload m

/-- R258 `matches`. -/
def waiterMatches (o : CommandObject) (x : Waiter) : Bool :=
  decide (x.ctype = o.commandType) && decide (x.subsystem = o.subsystem) && decide (x.name = o.name) &&
    matcherHolds o.payload x.matcher

/-! ## Completions -/

/-- R254 `outcome`: what a settled slot means to its caller; a pending slot has none. -/
def slotOutcome : SlotResult → Option DoneOutcome
  | .pending => none
  | .fulfilled o => some (.ok o)
  | .timedOut sub name => some (.err (.requestTimeout sub name))
  | .cancelled => some (.err .cancelled)
  | .failed => some (.err .disconnected)

/-- R248: whether a response's `status` field, where it has one, is among the expected ones. -/
def statusAccepted (expected : List Int) (v : Value) : Bool :=
  match v.intval with
  | some n => expected.contains (n : Int)
  | none => false

/-- R248: the outcome of an SREQ whose response arrived. -/
def sreqOutcome (expected : List Int) (resp : CommandObject) : DoneOutcome :=
  match resp.payload.get? "status" with
  | none => .ok resp
  | some v => if statusAccepted expected v then .ok resp else .err (.statusRejected v)

/-- R248 to R250, R263: the outcome of a request whose waiter got a result, none while it is pending. R250's info is the
request's own key (notes/assumptions/14). -/
def requestOutcome (c : ReqCtx) : SlotResult → Option DoneOutcome
  | .pending => none
  | .fulfilled o =>
    match c.kind with
    | .sreqPath => some (sreqOutcome c.expectedStatus o)
    | .resetPath => some (.ok o)
    | .areqPath => some (.ok o)
  | .timedOut _ _ => some (.err (.requestTimeout c.obj.subsystem c.obj.name))
  | .cancelled => some (.err .cancelled)
  | .failed => some (.err .disconnected)

/-- R28: the terminal phase of an outcome. -/
def terminalPhase : DoneOutcome → Phase
  | .ok _ => .fulfilled
  | .okNone => .fulfilled
  | .err (.statusRejected _) => .rejected
  | .err (.requestTimeout _ _) => .timedOut
  | .err .cancelled => .cancelled
  | .err _ => .failed

/-- R248 to R251: a request completes. Its phase becomes terminal, its completion is posted on `DONE`, its slot (if it has a
waiter) is deleted, the gate is released if it holds it, and its context is deleted. -/
def completeRequest (rid : Nat) (out : DoneOutcome) (s : State) : State :=
  match FMap.get? rid s.reqs with
  | none => s
  | some c =>
    let s1 := emitDone (.req rid) out (setPhase rid (terminalPhase out) s)
    let s2 := match c.wid with
      | some w => deleteSlot w s1
      | none => s1
    deleteReq rid (releaseGate rid s2)

/-- R254, R259: a caller's waiter settled; if an AWAIT is held on it, that AWAIT completes and consumes the slot. -/
def completeAwait (wid : Nat) (s : State) : State :=
  match FMap.get? wid s.slots with
  | none => s
  | some sl =>
    if sl.awaited then
      match slotOutcome sl.result with
      | some out => deleteSlot wid (emitDone (.waiter wid) out s)
      | none => s
    else s

/-- R23: the slot of a waiter gets its result; the `awaited` mark stays. -/
def latch (wid : Nat) (r : SlotResult) (s : State) : State :=
  match FMap.get? wid s.slots with
  | some sl => setSlot wid { sl with result := r } s
  | none => setSlot wid ⟨r, false⟩ s

/-- R256, R259, R261, R263: a waiter leaves the pending set with a result, and its owner is served in the same step. -/
def settle (x : Waiter) (r : SlotResult) (s : State) : State :=
  let s1 := latch x.wid r (removeWaiter x.wid s)
  match x.owner with
  | .caller => completeAwait x.wid s1
  | .req rid =>
    match FMap.get? rid s1.reqs with
    | none => s1
    | some c =>
      match requestOutcome c r with
      | some out => completeRequest rid out s1
      | none => s1

/-- R261: a waiter expires. -/
def expire (x : Waiter) (s : State) : State := settle x (.timedOut x.subsystem x.name) s

/-- R263: a waiter fails because of the disconnect. -/
def failWaiter (x : Waiter) (s : State) : State := settle x .failed s

/-! ## Issuing -/

/-- R243, R244: a waiter is registered, the frame is emitted, and the request awaits its reply; if the pending set is full the
request completes at once with that error and nothing is emitted. -/
def issueAwaiting (rid : Nat) (c : ReqCtx) (ctype : CmdType) (subsystem : Subsystem) (name : String) (s : State) : State :=
  match register ctype subsystem name .nil (c.timeout.getD 0) (.req rid) s with
  | .error e => completeRequest rid (.err e) s
  | .ok (w, s1) =>
    let s2 := setReq rid { c with wid := some w } s1
    setPhase rid .awaitingReply (emitTx c.bytes (setPhase rid .sent s2))

/-- R243 to R245 `issue`. -/
def issue (rid : Nat) (s : State) : State :=
  match FMap.get? rid s.reqs with
  | none => s
  | some c =>
    match c.kind with
    | .sreqPath => issueAwaiting rid c .srsp c.obj.subsystem c.obj.name s
    | .resetPath => issueAwaiting rid c .areq Subsys.sys "resetInd" s
    | .areqPath => completeRequest rid .okNone (emitTx c.bytes (setPhase rid .sent s))

/-- R241, R246: the path of an object; POLL and SRSP have none. -/
def kindOf (o : CommandObject) : Except Err ReqKind :=
  match o.commandType with
  | .sreq => .ok .sreqPath
  | .areq => .ok (if isResetCommand o then .resetPath else .areqPath)
  | .poll => .error (.invalidCommandType .poll)
  | .srsp => .error (.invalidCommandType .srsp)

/-- R247 `timeoutFor`: unused, and so absent, on the plain AREQ path. -/
def timeoutFor (cfg : Config) (o : CommandObject) : ReqKind → Option Nat
  | .resetPath => some cfg.tReset
  | .sreqPath => some (if cfg.longRunning.contains (o.subsystem, o.name) then cfg.tLong else cfg.tSreq)
  | .areqPath => none

/-- R241: the object, its frame and its path, built before any state is written (D28). -/
def buildRequest (tbl : List CommandSpec) (cfg : Config) (subsystem : Nat) (name : String) (payload : Fields) :
    Except Err (CommandObject × List Byte × ReqKind) :=
  match fromCommand tbl subsystem name payload with
  | .error e => .error e
  | .ok o =>
    match toFrame cfg o with
    | .error e => .error e
    | .ok f =>
      match encodeFrame f with
      | .error e => .error e
      | .ok bytes =>
        match kindOf o with
        | .error e => .error e
        | .ok k => .ok (o, bytes, k)

/-- R241, R242: the request takes a free gate and is issued in the same step, or is held for it. -/
def enterGate (rid : Nat) (s : State) : State :=
  match s.gate with
  | .free => issue rid { s with gate := .held rid }
  | .held _ => { setPhase rid .waitGate s with gateQueue := NSet.insert rid s.gateQueue }

/-! ## The gate's choice -/

/-- R262, D27: the queued request that the block picks, and the state with the choice drawn. With `any` it is a free value:
`Config.freeChoice` at the counter, an index taken modulo the length (notes/assumptions/8). -/
def pickQueued (s : State) : Option (Nat × State) :=
  match s.gateQueue with
  | [] => none
  | q :: qs =>
    match s.config.gateOrder with
    | .any =>
      some ((q :: qs).getD (Config.freeChoice s.choice % (q :: qs).length) q, { s with choice := s.choice + 1 })
    | .oldest => some (q, s)

/-- R262: GATE_GRANT is enabled when the gate is free and a request is held for it. -/
def grantEnabled (s : State) : Bool := decide (s.gate = .free) && !s.gateQueue.isEmpty

/-- R262: the block admits one held request; where the step is not enabled nothing happens (R9 `hold`). -/
def grantGate (s : State) : State :=
  match s.gate with
  | .held _ => s
  | .free =>
    match pickQueued s with
    | none => s
    | some (rid, s1) => issue rid { unqueue rid s1 with gate := .held rid }

/-- R263: the held requests fail, one after the other, in an order that the spec leaves free (notes/assumptions/12). -/
def failQueued : Nat → State → State
  | 0, s => s
  | k + 1, s =>
    match pickQueued s with
    | none => s
    | some (rid, s1) => failQueued k (completeRequest rid (.err .disconnected) (unqueue rid s1))

/-! ## Frames received -/

/-- R260 `dispatch`. -/
def dispatch (o : CommandObject) (s : State) : State :=
  if s.handlers.contains o.name then emitEvt (.unsolicited o) s else s

/-- R257, R267 `FRAME_RECEIVED`: decode, then the oldest waiter that matches, else the observer. -/
def frameReceived (f : Frame) (s : State) : State :=
  match fromFrame s.cmdTable s.config f with
  | .error e => emitEvt (.rxError e.code (.frame f.subsystem f.commandId f.commandType)) s
  | .ok o =>
    match s.waiters.find? (waiterMatches o) with
    | some x => settle x (.fulfilled o) s
    | none => dispatch o s

/-! ## Re-assembly -/

/-- What one pass over the accumulator finds (R105 to R111): bytes to keep and wait on, or a frame and what follows it. -/
inductive RxScan where
  | wait (keep : List Byte)
  | frame (f rest : List Byte)
deriving DecidableEq, Repr

/-- R106: the bytes from the first marker on; none where there is none. -/
def scanToMarker : List Byte → List Byte
  | [] => []
  | b :: bs => if b = marker then b :: bs else scanToMarker bs

/-- R107, R108, R111: a frame sliced off an accumulator that begins with the marker. Where `MIN_FRAME_LEN` is so small that
there is no length byte yet, no frame can be whole (notes/assumptions/20). -/
def sliceFrame (minLen : Nat) (buf : List Byte) : RxScan :=
  if buf.length ≤ minLen then .wait buf
  else
    match buf[1]? with
    | none => .wait buf
    | some l => if buf.length < 5 + l.toNat then .wait buf else .frame (buf.take (5 + l.toNat)) (buf.drop (5 + l.toNat))

/-- R105, R106, R113: resynchronisation, then R107. -/
def rxScan (cfg : Config) (buf : List Byte) : RxScan :=
  match buf with
  | [] => .wait []
  | b :: bs =>
    if b = marker then sliceFrame cfg.minFrameLen (b :: bs)
    else
      match cfg.resyncMode with
      | .discardAll => .wait []
      | .scanForward =>
        match scanToMarker bs with
        | [] => .wait []
        | c :: cs => sliceFrame cfg.minFrameLen (c :: cs)

/-- R109, R110: an extracted frame is delivered, or dropped with a ChecksumMismatch. -/
def rxDeliver (f : List Byte) (s : State) : State :=
  let expected := xorfold ((f.drop 1).take (f.length - 2))
  let got := f.getD (f.length - 1) 0
  if expected = got then frameReceived (parseFrame f) s
  else emitEvt (.rxError .checksumMismatch (.checksums expected got)) s

/-- R103, R112: the passes of one RX_PUSH. Every pass after the first begins with at least 5 bytes fewer, so a bound of one
more than the accumulator's length is never reached. -/
def rxPasses : Nat → State → State
  | 0, s => s
  | k + 1, s =>
    match rxScan s.config s.rxbuf with
    | .wait keep => { s with rxbuf := keep }
    | .frame f rest =>
      let s1 := rxDeliver f { s with rxbuf := rest }
      match s.config.drainMode with
      | .single => s1
      | .loop => rxPasses k s1

/-- R114: whether the chunk would make the accumulator exceed its capacity. -/
def rxOverflows (cap : Option Nat) (held chunk : Nat) : Bool :=
  match cap with
  | some c => decide (c < held + chunk)
  | none => false

/-- R103 `RX_PUSH`. -/
def receiveChunk (chunk : List Byte) (s : State) : State :=
  if rxOverflows s.config.rxbufCap s.rxbuf.length chunk.length then
    emitEvt (.rxError .rxOverflow (.chunk chunk.length)) s
  else rxPasses (s.rxbuf.length + chunk.length + 1) { s with rxbuf := s.rxbuf ++ chunk }

end Sys2Proof.Machine
end

