-- ==== Sys2Proof/Machine/CommandObject.lean ====
section
/-! DEFINITION. The meanings of the Command Table and Command Object operations (spec/42_command_object.md). -/

namespace Sys2Proof.Machine

open Sys2Proof

/-- FROM_FRAME (R207). -/
def execFromFrame (f : Frame) (s : State) : Host.Outcome State Fault Refusal :=
  .next (answer ((fromFrame s.cmdTable s.config f).map .object) s)

/-- TO_FRAME (R208). -/
def execToFrame (o : CommandObject) (s : State) : Host.Outcome State Fault Refusal :=
  .next (checked 0x61 (Operands.object o) (answer ((toFrame s.config o).map .frame)) s)

/-- FROM_COMMAND (R209). -/
def execFromCommand (subsystem : Nat) (name : String) (payload : Fields) (s : State) :
    Host.Outcome State Fault Refusal :=
  .next (checked 0x62 (Operands.fromCommand subsystem payload)
    (answer ((fromCommand s.cmdTable subsystem name payload).map .object)) s)

/-- FROM_CLUSTER (R210 to R212). -/
def execFromCluster (dst profile cluster srcEp dstEp tsn : Nat) (data : List Byte) (s : State) :
    Host.Outcome State Fault Refusal :=
  .next (checked 0x63 (Operands.fromCluster dst profile cluster srcEp dstEp tsn)
    (answer ((fromCluster s.cmdTable s.config dst profile cluster srcEp dstEp tsn data).map .object)) s)

/-- IS_RESET_COMMAND (R213). -/
def execIsResetCommand (o : CommandObject) (s : State) : Host.Outcome State Fault Refusal :=
  .next (checked 0x64 (Operands.object o) (respond (.ok (.bool (isResetCommand o)))) s)

/-- LOOKUP_BY_ID (R202). -/
def execLookupById (subsystem wireId : Nat) (s : State) : Host.Outcome State Fault Refusal :=
  .next (checked 0x65 (Operands.lookupById subsystem wireId)
    (answer ((lookupById s.cmdTable subsystem wireId).map .spec)) s)

/-- LOOKUP_BY_NAME (R203). -/
def execLookupByName (subsystem : Nat) (name : String) (s : State) : Host.Outcome State Fault Refusal :=
  .next (checked 0x66 (Operands.subsystem subsystem) (answer ((lookupByName s.cmdTable subsystem name).map .spec)) s)

end Sys2Proof.Machine
end

