-- ==== Sys2Proof/Machine/FrameCodec.lean ====
section
/-! DEFINITION. The meanings of FRAME_ENCODE, RX_PUSH and CHECKSUM (spec/40_frame_codec.md). -/

namespace Sys2Proof.Machine

open Sys2Proof

/-- FRAME_ENCODE (R101). -/
def execFrameEncode (ctype subsystem commandId : Nat) (payload : List Byte) (s : State) :
    Host.Outcome State Fault Refusal :=
  .next (checked 0x00 (Operands.frameEncode ctype subsystem commandId)
    (answer ((frameEncode ctype subsystem commandId payload).map .bytes)) s)

/-- RX_PUSH (R103): no result is returned; errors go to `EVT`. -/
def execRxPush (chunk : List Byte) (s : State) : Host.Outcome State Fault Refusal :=
  .next (respond (.ok .none) (receiveChunk chunk s))

/-- CHECKSUM (R100). -/
def execChecksum (b : List Byte) (s : State) : Host.Outcome State Fault Refusal :=
  .next (respond (.ok (.byte (xorfold b))) s)

end Sys2Proof.Machine
end

