-- ==== Sys2Proof/Machine/ParameterRead.lean ====
section
/-! DEFINITION. The meanings of PREAD.<tag> (spec/41_parameter_codec.md R131, R141 to R181): the value and the advanced position, or
the error, are returned; no state but the returned outcome is written (spec/10_state.md R40). -/

namespace Sys2Proof.Machine

open Sys2Proof

/-- R131: the outcome of a read. -/
def readOp (r : Except Err (Value × Nat)) (s : State) : State := answer (r.map (fun x => .read x.1 x.2)) s

/-- PREAD.UINT8 (R141). -/
def execPreadUint8 (_ : ReadOpts) (b : List Byte) (p : Nat) (s : State) : Host.Outcome State Fault Refusal :=
  .next (readOp (preadUint8 b p) s)

/-- PREAD.UINT16 (R143). -/
def execPreadUint16 (o : ReadOpts) (b : List Byte) (p : Nat) (s : State) : Host.Outcome State Fault Refusal :=
  .next (readOp (preadUint16 o b p) s)

/-- PREAD.UINT32 (R145). -/
def execPreadUint32 (_ : ReadOpts) (b : List Byte) (p : Nat) (s : State) : Host.Outcome State Fault Refusal :=
  .next (readOp (preadUint32 b p) s)

/-- PREAD.IEEEADDR (R147). -/
def execPreadIeeeaddr (_ : ReadOpts) (b : List Byte) (p : Nat) (s : State) : Host.Outcome State Fault Refusal :=
  .next (readOp (preadIeeeaddr b p) s)

/-- PREAD.BUFFER (R149). -/
def execPreadBuffer (o : ReadOpts) (b : List Byte) (p : Nat) (s : State) : Host.Outcome State Fault Refusal :=
  .next (readOp (preadBuffer o b p) s)

/-- PREAD.BUFFER8 (R151). -/
def execPreadBuffer8 (_ : ReadOpts) (b : List Byte) (p : Nat) (s : State) : Host.Outcome State Fault Refusal :=
  .next (readOp (preadBuffer8 b p) s)

/-- PREAD.BUFFER16 (R153). -/
def execPreadBuffer16 (_ : ReadOpts) (b : List Byte) (p : Nat) (s : State) : Host.Outcome State Fault Refusal :=
  .next (readOp (preadBuffer16 b p) s)

/-- PREAD.BUFFER18 (R155). -/
def execPreadBuffer18 (_ : ReadOpts) (b : List Byte) (p : Nat) (s : State) : Host.Outcome State Fault Refusal :=
  .next (readOp (preadBuffer18 b p) s)

/-- PREAD.BUFFER32 (R157). -/
def execPreadBuffer32 (_ : ReadOpts) (b : List Byte) (p : Nat) (s : State) : Host.Outcome State Fault Refusal :=
  .next (readOp (preadBuffer32 b p) s)

/-- PREAD.BUFFER42 (R159). -/
def execPreadBuffer42 (_ : ReadOpts) (b : List Byte) (p : Nat) (s : State) : Host.Outcome State Fault Refusal :=
  .next (readOp (preadBuffer42 b p) s)

/-- PREAD.BUFFER100 (R161). -/
def execPreadBuffer100 (_ : ReadOpts) (b : List Byte) (p : Nat) (s : State) : Host.Outcome State Fault Refusal :=
  .next (readOp (preadBuffer100 b p) s)

/-- PREAD.LIST_UINT8 (R163). -/
def execPreadListUint8 (o : ReadOpts) (b : List Byte) (p : Nat) (s : State) : Host.Outcome State Fault Refusal :=
  .next (readOp (preadListUint8 o b p) s)

/-- PREAD.LIST_UINT16 (R165). -/
def execPreadListUint16 (o : ReadOpts) (b : List Byte) (p : Nat) (s : State) : Host.Outcome State Fault Refusal :=
  .next (readOp (preadListUint16 o b p) s)

/-- PREAD.LIST_ROUTING_TABLE (R167). -/
def execPreadListRoutingTable (o : ReadOpts) (b : List Byte) (p : Nat) (s : State) : Host.Outcome State Fault Refusal :=
  .next (readOp (preadListRoutingTable s.config o b p) s)

/-- PREAD.LIST_BIND_TABLE (R169). -/
def execPreadListBindTable (o : ReadOpts) (b : List Byte) (p : Nat) (s : State) : Host.Outcome State Fault Refusal :=
  .next (readOp (preadListBindTable s.config o b p) s)

/-- PREAD.LIST_NEIGHBOR_LQI (R171). -/
def execPreadListNeighborLqi (o : ReadOpts) (b : List Byte) (p : Nat) (s : State) : Host.Outcome State Fault Refusal :=
  .next (readOp (preadListNeighborLqi s.config o b p) s)

/-- PREAD.LIST_NETWORK (R173). -/
def execPreadListNetwork (o : ReadOpts) (b : List Byte) (p : Nat) (s : State) : Host.Outcome State Fault Refusal :=
  .next (readOp (preadListNetwork s.config o b p) s)

/-- PREAD.LIST_ASSOC_DEV (R175). -/
def execPreadListAssocDev (o : ReadOpts) (b : List Byte) (p : Nat) (s : State) : Host.Outcome State Fault Refusal :=
  .next (readOp (preadListAssocDev s.config o b p) s)

/-- PREAD.INT8 (R177). -/
def execPreadInt8 (_ : ReadOpts) (b : List Byte) (p : Nat) (s : State) : Host.Outcome State Fault Refusal :=
  .next (readOp (preadInt8 b p) s)

/-- PREAD.INT16 (R179). -/
def execPreadInt16 (_ : ReadOpts) (b : List Byte) (p : Nat) (s : State) : Host.Outcome State Fault Refusal :=
  .next (readOp (preadInt16 b p) s)

/-- PREAD.INT32 (R181). -/
def execPreadInt32 (_ : ReadOpts) (b : List Byte) (p : Nat) (s : State) : Host.Outcome State Fault Refusal :=
  .next (readOp (preadInt32 b p) s)

end Sys2Proof.Machine
end

