-- ==== Sys2Proof/Machine/ParameterWrite.lean ====
section
/-! DEFINITION. The meanings of PWRITE.<tag> (spec/41_parameter_codec.md R130, R140 to R180): the operands are checked, then the
extended buffer or the error is returned; no state but the returned outcome is written (spec/10_state.md R40). -/

namespace Sys2Proof.Machine

open Sys2Proof

/-- R130: the outcome of a write of a value onto a buffer. -/
def writeOp (op : Byte) (v : Value) (r : Except Err (List Byte)) (s : State) : State :=
  checked op v.wf (answer (r.map .bytes)) s

/-- PWRITE.UINT8 (R140). -/
def execPwriteUint8 (v : Value) (w : List Byte) (s : State) : Host.Outcome State Fault Refusal :=
  .next (writeOp 0x20 v (pwriteUint8 v w) s)

/-- PWRITE.UINT16 (R142). -/
def execPwriteUint16 (v : Value) (w : List Byte) (s : State) : Host.Outcome State Fault Refusal :=
  .next (writeOp 0x21 v (pwriteUint16 v w) s)

/-- PWRITE.UINT32 (R144). -/
def execPwriteUint32 (v : Value) (w : List Byte) (s : State) : Host.Outcome State Fault Refusal :=
  .next (writeOp 0x22 v (pwriteUint32 v w) s)

/-- PWRITE.IEEEADDR (R146). -/
def execPwriteIeeeaddr (v : Value) (w : List Byte) (s : State) : Host.Outcome State Fault Refusal :=
  .next (writeOp 0x23 v (pwriteIeeeaddr v w) s)

/-- PWRITE.BUFFER (R148). -/
def execPwriteBuffer (v : Value) (w : List Byte) (s : State) : Host.Outcome State Fault Refusal :=
  .next (writeOp 0x24 v (pwriteBuffer v w) s)

/-- PWRITE.BUFFER8 (R150). -/
def execPwriteBuffer8 (v : Value) (w : List Byte) (s : State) : Host.Outcome State Fault Refusal :=
  .next (writeOp 0x25 v (pwriteBuffer8 v w) s)

/-- PWRITE.BUFFER16 (R152). -/
def execPwriteBuffer16 (v : Value) (w : List Byte) (s : State) : Host.Outcome State Fault Refusal :=
  .next (writeOp 0x26 v (pwriteBuffer16 v w) s)

/-- PWRITE.BUFFER18 (R154). -/
def execPwriteBuffer18 (v : Value) (w : List Byte) (s : State) : Host.Outcome State Fault Refusal :=
  .next (writeOp 0x27 v (pwriteBuffer18 v w) s)

/-- PWRITE.BUFFER32 (R156). -/
def execPwriteBuffer32 (v : Value) (w : List Byte) (s : State) : Host.Outcome State Fault Refusal :=
  .next (writeOp 0x28 v (pwriteBuffer32 v w) s)

/-- PWRITE.BUFFER42 (R158). -/
def execPwriteBuffer42 (v : Value) (w : List Byte) (s : State) : Host.Outcome State Fault Refusal :=
  .next (writeOp 0x29 v (pwriteBuffer42 v w) s)

/-- PWRITE.BUFFER100 (R160). -/
def execPwriteBuffer100 (v : Value) (w : List Byte) (s : State) : Host.Outcome State Fault Refusal :=
  .next (writeOp 0x2A v (pwriteBuffer100 v w) s)

/-- PWRITE.LIST_UINT8 (R162). -/
def execPwriteListUint8 (v : Value) (w : List Byte) (s : State) : Host.Outcome State Fault Refusal :=
  .next (writeOp 0x2B v (pwriteListUint8 v w) s)

/-- PWRITE.LIST_UINT16 (R164). -/
def execPwriteListUint16 (v : Value) (w : List Byte) (s : State) : Host.Outcome State Fault Refusal :=
  .next (writeOp 0x2C v (pwriteListUint16 v w) s)

/-- PWRITE.LIST_ROUTING_TABLE (R166). -/
def execPwriteListRoutingTable (v : Value) (w : List Byte) (s : State) : Host.Outcome State Fault Refusal :=
  .next (writeOp 0x2D v (pwriteListRoutingTable s.config v w) s)

/-- PWRITE.LIST_BIND_TABLE (R168). -/
def execPwriteListBindTable (v : Value) (w : List Byte) (s : State) : Host.Outcome State Fault Refusal :=
  .next (writeOp 0x2E v (pwriteListBindTable s.config v w) s)

/-- PWRITE.LIST_NEIGHBOR_LQI (R170). -/
def execPwriteListNeighborLqi (v : Value) (w : List Byte) (s : State) : Host.Outcome State Fault Refusal :=
  .next (writeOp 0x2F v (pwriteListNeighborLqi s.config v w) s)

/-- PWRITE.LIST_NETWORK (R172). -/
def execPwriteListNetwork (v : Value) (w : List Byte) (s : State) : Host.Outcome State Fault Refusal :=
  .next (writeOp 0x30 v (pwriteListNetwork s.config v w) s)

/-- PWRITE.LIST_ASSOC_DEV (R174). -/
def execPwriteListAssocDev (v : Value) (w : List Byte) (s : State) : Host.Outcome State Fault Refusal :=
  .next (writeOp 0x31 v (pwriteListAssocDev v w) s)

/-- PWRITE.INT8 (R176). -/
def execPwriteInt8 (v : Value) (w : List Byte) (s : State) : Host.Outcome State Fault Refusal :=
  .next (writeOp 0x32 v (pwriteInt8 v w) s)

/-- PWRITE.INT16 (R178). -/
def execPwriteInt16 (v : Value) (w : List Byte) (s : State) : Host.Outcome State Fault Refusal :=
  .next (writeOp 0x33 v (pwriteInt16 v w) s)

/-- PWRITE.INT32 (R180). -/
def execPwriteInt32 (v : Value) (w : List Byte) (s : State) : Host.Outcome State Fault Refusal :=
  .next (writeOp 0x34 v (pwriteInt32 v w) s)

end Sys2Proof.Machine
end

