-- ==== Sys2Proof/Machine/RequestEngine.lean ====
section
/-! DEFINITION. The meanings of the Request Engine operations (spec/43_request_engine.md). -/

namespace Sys2Proof.Machine

open Sys2Proof

/-- R241: the context of a request that has issued nothing yet. -/
def freshCtx (cfg : Config) (o : CommandObject) (bytes : List Byte) (k : ReqKind) (expected : List Int) : ReqCtx :=
  ⟨.idle, o, bytes, k, expected, none, timeoutFor cfg o k⟩

/-- R241: the request is built, gets its handle, which is returned, and then enters the gate in the same step. -/
def requestOp (subsystem : Nat) (name : String) (payload : Fields) (expected : List Int) (s : State) : State :=
  match buildRequest s.cmdTable s.config subsystem name payload with
  | .error e => raise e s
  | .ok (o, bytes, k) =>
    enterGate s.nextRid
      (respond (.ok (.rid s.nextRid))
        (setReq s.nextRid (freshCtx s.config o bytes k expected) { s with nextRid := s.nextRid + 1 }))

/-- REQUEST (R241). -/
def execRequest (subsystem : Nat) (name : String) (payload : Fields) (expected : List Int) (s : State) :
    Host.Outcome State Fault Refusal :=
  .next (checked 0x80 (Operands.request subsystem payload expected) (requestOp subsystem name payload expected) s)

/-- R252: `T_DEFAULT` when no timeout is given. -/
def createWaiterOp (ctype subsystem : Nat) (name : String) (matcher : Fields) (timeout : Option Nat) (s : State) :
    State :=
  match CmdType.ofNat? ctype with
  | none => raise (.illegalOperation 0x81) s
  | some t =>
    match register t (BitVec.ofNat 5 subsystem) name matcher (timeout.getD s.config.tDefault) .caller s with
    | .error e => raise e s
    | .ok (w, s1) => respond (.ok (.wid w)) s1

/-- CREATE_RESPONSE_WAITER (R252). -/
def execCreateResponseWaiter (ctype subsystem : Nat) (name : String) (matcher : Fields) (timeout : Option Nat) (s : State) :
    Host.Outcome State Fault Refusal :=
  .next (checked 0x81 (Operands.waiter ctype subsystem matcher) (createWaiterOp ctype subsystem name matcher timeout) s)

/-- R254: the waiter of a handle is owned by a request. -/
def requestOwned (wid : Nat) (s : State) : Bool :=
  s.waiters.any (fun x => x.wid == wid && x.owner != .caller)

/-- R254, R36: the response that an outcome is when AWAIT returns it at once. -/
def outcomeResponse : DoneOutcome → Response
  | .ok o => .ok (.object o)
  | .okNone => .ok .none
  | .err e => .err e

/-- R254: a pending slot is marked awaited and its caller held; a settled one is returned and deleted. -/
def awaitOp (wid : Nat) (s : State) : State :=
  match FMap.get? wid s.slots with
  | none => raise (.badHandle wid) s
  | some sl =>
    if requestOwned wid s || sl.awaited then raise (.badHandle wid) s
    else
      match slotOutcome sl.result with
      | none => respond (.hold wid) (setSlot wid { sl with awaited := true } s)
      | some out => respond (outcomeResponse out) (deleteSlot wid s)

/-- AWAIT (R254). -/
def execAwait (wid : Nat) (s : State) : Host.Outcome State Fault Refusal := .next (awaitOp wid s)

/-- R255: a request leaves the queue, or its own waiter leaves the pending set, and it completes as cancelled; a request that
is already complete is left alone. -/
def cancelRequestOp (rid : Nat) (s : State) : State :=
  match FMap.get? rid s.reqs with
  | none => s
  | some c =>
    let s1 := if c.phase = .waitGate then unqueue rid s else s
    let s2 := if c.phase = .awaitingReply then (match c.wid with | some w => removeWaiter w s1 | none => s1) else s1
    completeRequest rid (.err .cancelled) s2

/-- CANCEL_REQUEST (R255). -/
def execCancelRequest (rid : Nat) (s : State) : Host.Outcome State Fault Refusal :=
  .next (respond (.ok .none) (cancelRequestOp rid s))

/-- R256: a caller's pending waiter is cancelled; one that is not pending is left alone; a request's is refused. -/
def cancelWaiterOp (wid : Nat) (s : State) : State :=
  match s.waiters.find? (fun x => x.wid == wid) with
  | none => respond (.ok .none) s
  | some x =>
    match x.owner with
    | .req _ => raise (.badHandle wid) s
    | .caller => respond (.ok .none) (settle x .cancelled s)

/-- CANCEL_WAITER (R256). -/
def execCancelWaiter (wid : Nat) (s : State) : Host.Outcome State Fault Refusal := .next (cancelWaiterOp wid s)

/-- R261: time advances, then every waiter due expires, oldest first. -/
def tickOp (dt : Nat) (s : State) : State :=
  (s.waiters.filter (fun x => decide (x.deadline ≤ s.now + dt))).foldl (fun t x => expire x t)
    { s with now := s.now + dt }

/-- TICK (R261). -/
def execTick (dt : Nat) (s : State) : Host.Outcome State Fault Refusal :=
  .next (respond (.ok .none) (tickOp dt s))

/-- R263: the event first; then, with `FAIL_ON_DISCONNECT`, every waiter fails, oldest first, and every held request. -/
def disconnectOp (s : State) : State :=
  let s1 := emitEvt .disconnected s
  if s.config.failOnDisconnect then
    let s2 := s1.waiters.foldl (fun t x => failWaiter x t) s1
    failQueued s2.gateQueue.length s2
  else s1

/-- DISCONNECT (R263). -/
def execDisconnect (s : State) : Host.Outcome State Fault Refusal := .next (respond (.ok .none) (disconnectOp s))

/-- FRAME_RECEIVED (R257), taken by the block: emissions only. Inside RX_PUSH the same `frameReceived` runs; this is the step of its own that the
model also has (notes/assumptions/33). -/
def execFrameReceived (f : Frame) (s : State) : Host.Outcome State Fault Refusal :=
  .next (checked 0xE0 (Operands.frameReceived f) (frameReceived f) s)

/-- GATE_GRANT (R262), taken by the block. -/
def execGateGrant (s : State) : Host.Outcome State Fault Refusal := .next (grantGate s)

end Sys2Proof.Machine
end

