-- ==== Sys2Proof/Machine/WireFrames.lean ====
section
/-! DEFINITION. The meanings of the wire frames (spec/30_encoding.md R70, R86): the transport delivers the frame's bytes as one chunk, and the block
receives them as RX_PUSH does (spec/40_frame_codec.md R103; notes/assumptions/4). -/

namespace Sys2Proof.Machine

open Sys2Proof

/-- The bytes of a frame of the given type number arrive. -/
def deliverFrame (ctype : Nat) (length : Byte) (subsystem : Subsystem) (commandId : Byte) (payload : List Byte)
    (checksum : Byte) (s : State) : State :=
  respond (.ok .none) (receiveChunk (wireBytes length (cmd0 ctype subsystem.toNat) commandId payload checksum) s)

/-- FRAME.POLL (R86). -/
def execFramePoll (l : Byte) (u : Subsystem) (k : Byte) (p : List Byte) (x : Byte) (s : State) :
    Host.Outcome State Fault Refusal :=
  .next (deliverFrame 0 l u k p x s)

/-- FRAME.SREQ (R86). -/
def execFrameSreq (l : Byte) (u : Subsystem) (k : Byte) (p : List Byte) (x : Byte) (s : State) :
    Host.Outcome State Fault Refusal :=
  .next (deliverFrame 1 l u k p x s)

/-- FRAME.AREQ (R86). -/
def execFrameAreq (l : Byte) (u : Subsystem) (k : Byte) (p : List Byte) (x : Byte) (s : State) :
    Host.Outcome State Fault Refusal :=
  .next (deliverFrame 2 l u k p x s)

/-- FRAME.SRSP (R86). -/
def execFrameSrsp (l : Byte) (u : Subsystem) (k : Byte) (p : List Byte) (x : Byte) (s : State) :
    Host.Outcome State Fault Refusal :=
  .next (deliverFrame 3 l u k p x s)

/-- FRAME.RESERVED_TYPE (R86): types 4 to 7, which the Frame Codec delivers and FROM_FRAME refuses. -/
def execFrameReservedType (t : BitVec 2) (l : Byte) (u : Subsystem) (k : Byte) (p : List Byte) (x : Byte) (s : State) :
    Host.Outcome State Fault Refusal :=
  .next (deliverFrame (4 + t.toNat) l u k p x s)

end Sys2Proof.Machine
end

