-- ==== Sys2Proof/Machine/Dispatch.lean ====
section
/-! DEFINITION. The dispatch: one arm per instruction of the opcode table, each one call of its meaning. -/

namespace Sys2Proof.Machine

open Sys2Proof

def exec (i : Instr) (s : State) : Host.Outcome State Fault Refusal :=
  match i with
  | .frameEncode c u k p => Sys2Proof.Machine.execFrameEncode c u k p s
  | .rxPush c => Sys2Proof.Machine.execRxPush c s
  | .checksum b => Sys2Proof.Machine.execChecksum b s
  | .pwriteUint8 v w => Sys2Proof.Machine.execPwriteUint8 v w s
  | .pwriteUint16 v w => Sys2Proof.Machine.execPwriteUint16 v w s
  | .pwriteUint32 v w => Sys2Proof.Machine.execPwriteUint32 v w s
  | .pwriteIeeeaddr v w => Sys2Proof.Machine.execPwriteIeeeaddr v w s
  | .pwriteBuffer v w => Sys2Proof.Machine.execPwriteBuffer v w s
  | .pwriteBuffer8 v w => Sys2Proof.Machine.execPwriteBuffer8 v w s
  | .pwriteBuffer16 v w => Sys2Proof.Machine.execPwriteBuffer16 v w s
  | .pwriteBuffer18 v w => Sys2Proof.Machine.execPwriteBuffer18 v w s
  | .pwriteBuffer32 v w => Sys2Proof.Machine.execPwriteBuffer32 v w s
  | .pwriteBuffer42 v w => Sys2Proof.Machine.execPwriteBuffer42 v w s
  | .pwriteBuffer100 v w => Sys2Proof.Machine.execPwriteBuffer100 v w s
  | .pwriteListUint8 v w => Sys2Proof.Machine.execPwriteListUint8 v w s
  | .pwriteListUint16 v w => Sys2Proof.Machine.execPwriteListUint16 v w s
  | .pwriteListRoutingTable v w => Sys2Proof.Machine.execPwriteListRoutingTable v w s
  | .pwriteListBindTable v w => Sys2Proof.Machine.execPwriteListBindTable v w s
  | .pwriteListNeighborLqi v w => Sys2Proof.Machine.execPwriteListNeighborLqi v w s
  | .pwriteListNetwork v w => Sys2Proof.Machine.execPwriteListNetwork v w s
  | .pwriteListAssocDev v w => Sys2Proof.Machine.execPwriteListAssocDev v w s
  | .pwriteInt8 v w => Sys2Proof.Machine.execPwriteInt8 v w s
  | .pwriteInt16 v w => Sys2Proof.Machine.execPwriteInt16 v w s
  | .pwriteInt32 v w => Sys2Proof.Machine.execPwriteInt32 v w s
  | .preadUint8 o b p => Sys2Proof.Machine.execPreadUint8 o b p s
  | .preadUint16 o b p => Sys2Proof.Machine.execPreadUint16 o b p s
  | .preadUint32 o b p => Sys2Proof.Machine.execPreadUint32 o b p s
  | .preadIeeeaddr o b p => Sys2Proof.Machine.execPreadIeeeaddr o b p s
  | .preadBuffer o b p => Sys2Proof.Machine.execPreadBuffer o b p s
  | .preadBuffer8 o b p => Sys2Proof.Machine.execPreadBuffer8 o b p s
  | .preadBuffer16 o b p => Sys2Proof.Machine.execPreadBuffer16 o b p s
  | .preadBuffer18 o b p => Sys2Proof.Machine.execPreadBuffer18 o b p s
  | .preadBuffer32 o b p => Sys2Proof.Machine.execPreadBuffer32 o b p s
  | .preadBuffer42 o b p => Sys2Proof.Machine.execPreadBuffer42 o b p s
  | .preadBuffer100 o b p => Sys2Proof.Machine.execPreadBuffer100 o b p s
  | .preadListUint8 o b p => Sys2Proof.Machine.execPreadListUint8 o b p s
  | .preadListUint16 o b p => Sys2Proof.Machine.execPreadListUint16 o b p s
  | .preadListRoutingTable o b p => Sys2Proof.Machine.execPreadListRoutingTable o b p s
  | .preadListBindTable o b p => Sys2Proof.Machine.execPreadListBindTable o b p s
  | .preadListNeighborLqi o b p => Sys2Proof.Machine.execPreadListNeighborLqi o b p s
  | .preadListNetwork o b p => Sys2Proof.Machine.execPreadListNetwork o b p s
  | .preadListAssocDev o b p => Sys2Proof.Machine.execPreadListAssocDev o b p s
  | .preadInt8 o b p => Sys2Proof.Machine.execPreadInt8 o b p s
  | .preadInt16 o b p => Sys2Proof.Machine.execPreadInt16 o b p s
  | .preadInt32 o b p => Sys2Proof.Machine.execPreadInt32 o b p s
  | .fromFrame f => Sys2Proof.Machine.execFromFrame f s
  | .toFrame o => Sys2Proof.Machine.execToFrame o s
  | .fromCommand u n p => Sys2Proof.Machine.execFromCommand u n p s
  | .fromCluster d p c se de t x => Sys2Proof.Machine.execFromCluster d p c se de t x s
  | .isResetCommand o => Sys2Proof.Machine.execIsResetCommand o s
  | .lookupById u w => Sys2Proof.Machine.execLookupById u w s
  | .lookupByName u n => Sys2Proof.Machine.execLookupByName u n s
  | .request u n p e => Sys2Proof.Machine.execRequest u n p e s
  | .createResponseWaiter c u n m t => Sys2Proof.Machine.execCreateResponseWaiter c u n m t s
  | .await w => Sys2Proof.Machine.execAwait w s
  | .cancelRequest r => Sys2Proof.Machine.execCancelRequest r s
  | .cancelWaiter w => Sys2Proof.Machine.execCancelWaiter w s
  | .tick dt => Sys2Proof.Machine.execTick dt s
  | .disconnect => Sys2Proof.Machine.execDisconnect s
  | .frameReceived f => Sys2Proof.Machine.execFrameReceived f s
  | .gateGrant => Sys2Proof.Machine.execGateGrant s
  | .framePoll l u k p x => Sys2Proof.Machine.execFramePoll l u k p x s
  | .frameSreq l u k p x => Sys2Proof.Machine.execFrameSreq l u k p x s
  | .frameAreq l u k p x => Sys2Proof.Machine.execFrameAreq l u k p x s
  | .frameSrsp l u k p x => Sys2Proof.Machine.execFrameSrsp l u k p x s
  | .frameReservedType t l u k p x => Sys2Proof.Machine.execFrameReservedType t l u k p x s

end Sys2Proof.Machine
end

