-- ==== Sys2Proof/Machine/Step.lean ====
section
/-! DEFINITION. One step of ZCC-PE: the oldest presented input is taken and run (spec/20_memory.md R50); with nothing presented the block takes
an enabled GATE_GRANT (spec/43_request_engine.md R262), and else idles (spec/60_exceptions.md R313). See notes/assumptions/1. -/

namespace Sys2Proof.Machine

open Sys2Proof

/-- The input is taken off the port before it runs. -/
def State.take (s : State) (rest : List Input) : State := { s with port := rest }

def step (s : State) : Host.Outcome State Fault Refusal :=
  match s.port with
  | [] => if grantEnabled s then exec .gateGrant s else .next s
  | i :: rest =>
    match decode i with
    | .ok ins => exec ins (s.take rest)
    | .error r => .next (raise (Reject.toErr r) (s.take rest))

/-- A table word presented, ahead of whatever else is. -/
def State.withFetchWord (s : State) (nbits w : Nat) : State := { s with port := tableInput nbits w :: s.port }

end Sys2Proof.Machine
end

