-- ==== Sys2Proof/Safety.lean ====
section
/-! DEFINITION. What holds in every state of a ZCC-PE run: the terms that claims about whole runs use. Each is a decidable fact about one
state; Sys2Proof/Certificates states that reset has it and that every step keeps it. -/

namespace Sys2Proof.Machine

open Sys2Proof

/-- The canonical forms: handles strictly rising in `WAITERS` (R21), `SLOTS` (R23), `REQS` (R28) and `GATE_QUEUE` (R27). -/
abbrev State.canonical (s : State) : Prop :=
  NSet.wf (s.waiters.map (·.wid)) = true ∧ FMap.wf s.slots = true ∧ FMap.wf s.reqs = true ∧ NSet.wf s.gateQueue = true

/-- R24: every handle in use was drawn from its counter. -/
abbrev State.handlesDrawn (s : State) : Prop :=
  (∀ e ∈ s.slots, e.1 < s.nextWid) ∧ (∀ e ∈ s.reqs, e.1 < s.nextRid)

/-- R23: a slot is `Pending` exactly while its waiter is in `WAITERS`, and every waiter has a slot. -/
abbrev State.slotsPending (s : State) : Prop :=
  (∀ e ∈ s.slots, e.2.result = .pending ↔ ∃ x ∈ s.waiters, x.wid = e.1) ∧ (∀ x ∈ s.waiters, ∃ e ∈ s.slots, e.1 = x.wid)

/-- R26 to R29, R240: a request context is either held for the gate, without a waiter, or holds the gate and awaits its reply on a
waiter of its own. -/
abbrev State.requestPhase (s : State) (rid : Nat) (c : ReqCtx) : Prop :=
  (c.phase = .waitGate ∧ rid ∈ s.gateQueue ∧ c.wid = none) ∨
  (c.phase = .awaitingReply ∧ s.gate = .held rid ∧ c.kind ≠ .areqPath ∧
    ∃ x ∈ s.waiters, c.wid = some x.wid ∧ x.owner = .req rid)

/-- Every request context is in one of those two phases. -/
abbrev State.requestsPhased (s : State) : Prop := ∀ e ∈ s.reqs, s.requestPhase e.1 e.2

/-- R27: every queued handle is a request in `WaitGate`. -/
abbrev State.queueLive (s : State) : Prop := ∀ rid ∈ s.gateQueue, ∃ e ∈ s.reqs, e.1 = rid ∧ e.2.phase = .waitGate

/-- R26: the gate is held only by a request in `AwaitingReply`. -/
abbrev State.gateLive (s : State) : Prop :=
  s.gate = .free ∨ ∃ e ∈ s.reqs, s.gate = .held e.1 ∧ e.2.phase = .awaitingReply

/-- R22: a waiter owned by a request is the waiter that this request awaits. -/
abbrev State.ownersLive (s : State) : Prop :=
  ∀ x ∈ s.waiters, x.owner = .caller ∨
    ∃ e ∈ s.reqs, x.owner = .req e.1 ∧ e.2.phase = .awaitingReply ∧ e.2.wid = some x.wid

/-- R23, R254: an awaited slot is pending, and its waiter is a caller's. -/
abbrev State.awaitsHeld (s : State) : Prop :=
  ∀ e ∈ s.slots, e.2.awaited = true → ∃ x ∈ s.waiters, x.wid = e.1 ∧ x.owner = .caller

/-- The invariant of the Request Engine's state. -/
abbrev State.Inv (s : State) : Prop :=
  s.canonical ∧ s.handlesDrawn ∧ s.slotsPending ∧ s.requestsPhased ∧ s.queueLive ∧ s.gateLive ∧ s.ownersLive ∧ s.awaitsHeld

/-- R36: a byte sequence is one whole encoded frame: the marker, the length byte that its payload has, and the checksum of R76. -/
abbrev WholeFrame (f : List Byte) : Prop :=
  f.take 1 = [marker] ∧ 5 ≤ f.length ∧ (f.getD 1 0).toNat + 5 = f.length ∧
    f.getD (f.length - 1) 0 = xorfold ((f.drop 1).take (f.length - 2))

/-- R36: every item of `TX`, and every frame a request still has to emit, is one whole encoded frame. -/
abbrev State.framesWhole (s : State) : Prop := (∀ f ∈ s.tx, WholeFrame f) ∧ (∀ e ∈ s.reqs, WholeFrame e.2.bytes)

/-- R39, R200: in the Command Table no two entries share a wire id or a name within their subsystem, and every schema has distinct names. -/
abbrev State.tableProper (s : State) : Prop :=
  (s.cmdTable.map (fun e => (e.subsystem, e.wireId))).Nodup ∧ (s.cmdTable.map (fun e => (e.subsystem, e.name))).Nodup ∧
    ∀ e ∈ s.cmdTable, Operands.schema e.requestSchema = true ∧ Operands.schema e.responseSchema = true

/-- How many completions of a request stand on `DONE`. -/
def State.completions (s : State) (rid : Nat) : Nat := (s.done.filter (fun c => c.handle == .req rid)).length

/-- R240: every handle that was drawn belongs to a request that is either live, without a completion, or gone, with exactly one;
a handle not yet drawn has neither. -/
def State.completedOnce (s : State) : Prop :=
  (∀ rid < s.nextRid, (rid ∈ FMap.keys s.reqs ∧ s.completions rid = 0) ∨ (rid ∉ FMap.keys s.reqs ∧ s.completions rid = 1)) ∧
  (∀ rid, s.nextRid ≤ rid → rid ∉ FMap.keys s.reqs ∧ s.completions rid = 0)

/-- R20, R21: the capacities are kept. -/
abbrev State.withinCapacity (s : State) : Prop :=
  (∀ c ∈ s.config.rxbufCap, s.rxbuf.length ≤ c) ∧ (∀ c ∈ s.config.waiterCap, s.waiters.length ≤ c)

end Sys2Proof.Machine
end

