-- ==== Sys2Proof/Certificates/Slice0/Obligations.lean ====
section
/-! DEFINITION. The statements for the provers. The formulas of `Sys2Proof.Claim` say what the spec's rules say in terms of their own, apart from the
machine's definitions where that is possible. In every statement the outcome that an operation returns to its caller (spec/00_scope.md R12) is the
item by which `ret` grows (the model's own stream, notes/assumptions/2), and a state is written out whole, so that every part of it that is not named is
unchanged. -/

namespace Sys2Proof.Claim

open Sys2Proof Sys2Proof.Machine

/-! ## Outcomes -/

/-- The state in which an operation has returned `r` and has written nothing else. -/
abbrev returns (r : Response) (s : State) : State := { s with ret := s.ret ++ [r] }

/-- The operation returned a result. -/
abbrev gives (v : OpResult) (s : State) : State := returns (.ok v) s

/-- The operation returned an error. -/
abbrev fails (e : Err) (s : State) : State := returns (.err e) s

/-- The state with inputs still presented. -/
abbrev withPort (p : List Input) (s : State) : State := { s with port := p }

/-! ## Bytes -/

/-- R10: the XOR of every byte, folded from the left. -/
def fold (s : List Byte) : Byte := s.foldl (fun a b => a ^^^ b) 0

/-- R9 `le_bytes`: byte `i` is the low byte of the `i`-th quotient by 256. -/
def intBytes (k : Nat) (n : Int) : List Byte := (List.range k).map (fun i => BitVec.ofInt 8 (n / 256 ^ i))

/-- R9 `le_value`: the sum of each byte times its power of 256. -/
def natOf (l : List Byte) : Nat := (l.zipIdx.map (fun e => e.1.toNat * 256 ^ e.2)).sum

/-- R133: the integer that bytes stand for, two's complement where signed. -/
def intOf (signed : Bool) (l : List Byte) : Int := if signed then (BitVec.ofNat (8 * l.length) (natOf l)).toInt else natOf l

/-- `k` bytes at `p`. -/
def slice (b : List Byte) (p k : Nat) : List Byte := (b.drop p).take k

/-- R71: cmd0, the type above the subsystem. -/
def cmd (t : BitVec 3) (u : Subsystem) : Byte := t ++ u

/-! ## Operation words -/

/-- R79: the defined operation words (of units 1 and 2, every word: R81). -/
def definedWord (op : Byte) : Bool :=
  [0x00, 0x01, 0x02, 0x60, 0x61, 0x62, 0x63, 0x64, 0x65, 0x66, 0x80, 0x81, 0x82, 0x83, 0x84, 0x85, 0x86, 0xE0, 0xE1].contains op ||
    decide (0x20 ≤ op.toNat ∧ op.toNat < 0x60)

/-- R40: the operations of the pure units, by their words. -/
def pureOperation (i : Instr) : Bool :=
  match encode i with
  | .op _ w _ => decide (w = 0x00 ∨ w = 0x02 ∨ (0x20 ≤ w.toNat ∧ w.toNat < 0x80))
  | .wire _ => false

/-! ## Re-assembly -/

/-- R114: the chunk fits the accumulator. -/
abbrev chunkFits (s : State) (chunk : List Byte) : Prop := ∀ c ∈ s.config.rxbufCap, s.rxbuf.length + chunk.length ≤ c

/-- R109, R110, R115: what becomes of an extracted frame with the fields `l`, `c`, `id`, `p` and the last byte `x`. -/
def extracted (l c id : Byte) (p : List Byte) (x : Byte) (s : State) : State :=
  if x = fold ([l, c, id] ++ p) then frameReceived ⟨c.extractLsb' 5 3, c.extractLsb' 0 5, id, p, l, x⟩ s
  else { s with evt := s.evt ++ [.rxError .checksumMismatch (.checksums (fold ([l, c, id] ++ p)) x)] }

/-- R112: after a frame, one push is at its end, or goes on with what is left. -/
def drained (s : State) : State :=
  match s.config.drainMode with
  | .single => s
  | .loop => receiveChunk [] s

/-- R70: the bytes of a frame. -/
def frameBytes (t : BitVec 3) (l : Byte) (u : Subsystem) (k : Byte) (p : List Byte) (x : Byte) : List Byte :=
  [0xFE, l, cmd t u, k] ++ p ++ [x]

/-! ## Parameters -/

/-- R130, R133: an integer tag of `k` bytes and range `lo .. hi`; `nwk` says whether the tag takes a network address too. -/
def WritesInt (mk : Value → List Byte → Instr) (tag k : Nat) (lo hi : Int) (nwk : Bool) : Prop :=
  ∀ (w : List Byte) (s : State),
    (∀ n, lo ≤ n → n ≤ hi → exec (mk (.int n) w) s = .next (gives (.bytes (w ++ intBytes k n)) s)) ∧
    (∀ n, n < lo ∨ hi < n →
      exec (mk (.int n) w) s = .next (fails (.valueOutOfRange (8 * k) (decide (lo < 0)) n) s)) ∧
    (nwk = true → ∀ a, exec (mk (.nwk a) w) s = .next (gives (.bytes (w ++ intBytes k a.toNat)) s)) ∧
    (∀ v : Value, v.wf = true → (∀ n, v ≠ .int n) → (nwk = true → ∀ a, v ≠ .nwk a) →
      exec (mk v w) s = .next (fails (.schemaError (.wrongKind tag)) s))

/-- R131, R133: an integer tag of `k` bytes read as an `Int`, or as a network address where `nwk` says so and the option is set. -/
def ReadsInt (mk : ReadOpts → List Byte → Nat → Instr) (k : Nat) (signed nwk : Bool) : Prop :=
  ∀ (o : ReadOpts) (b : List Byte) (p : Nat) (s : State),
    (p + k ≤ b.length → (nwk && o.isAddress) = false →
      exec (mk o b p) s = .next (gives (.read (.int (intOf signed (slice b p k))) (p + k)) s)) ∧
    (p + k ≤ b.length → (nwk && o.isAddress) = true →
      exec (mk o b p) s = .next (gives (.read (.nwk (BitVec.ofNat 16 (natOf (slice b p k)))) (p + k)) s)) ∧
    (b.length < p + k → exec (mk o b p) s = .next (fails (.bufferUnderrun p k) s))

/-- R148, R150: a buffer tag copies its bytes, whatever their number. -/
def WritesBytes (mk : Value → List Byte → Instr) (tag : Nat) : Prop :=
  ∀ (w : List Byte) (s : State),
    (∀ x, exec (mk (.bytes x) w) s = .next (gives (.bytes (w ++ x)) s)) ∧
    (∀ v : Value, v.wf = true → (∀ x, v ≠ .bytes x) → exec (mk v w) s = .next (fails (.schemaError (.wrongKind tag)) s))

/-- R151: a sized buffer tag reads its own number of bytes and heeds no option. -/
def ReadsBytes (mk : ReadOpts → List Byte → Nat → Instr) (n : Nat) : Prop :=
  ∀ (o : ReadOpts) (b : List Byte) (p : Nat) (s : State),
    (p + n ≤ b.length → exec (mk o b p) s = .next (gives (.read (.bytes (slice b p n)) (p + n)) s)) ∧
    (b.length < p + n → exec (mk o b p) s = .next (fails (.bufferUnderrun p n) s))

/-- The number of a list element: an `Int`, or a `Nwk` where the tag takes one. -/
def number (nwk : Bool) : Value → Option Int
  | .int n => some n
  | .nwk a => if nwk then some a.toNat else none
  | .eui _ => none
  | .bytes _ => none
  | .list _ => none
  | .record _ => none

/-- R162, R164, R174: a list of unsigned integers of `k` bytes; the kinds of all its elements come before their ranges (R303). -/
def WritesIntList (mk : Value → List Byte → Instr) (tag k : Nat) (nwk : Bool) : Prop :=
  ∀ (w : List Byte) (s : State),
    (∀ (vs : List Value) (ns : List Int), vs.map (number nwk) = ns.map some → (∀ n ∈ ns, 0 ≤ n ∧ n < 256 ^ k) →
      exec (mk (.list (Values.ofList vs)) w) s = .next (gives (.bytes (w ++ ns.flatMap (intBytes k))) s)) ∧
    (∀ (vs : List Value) (ns ms : List Int) (n : Int), vs.map (number nwk) = (ns ++ n :: ms).map some →
      (∀ m ∈ ns, 0 ≤ m ∧ m < 256 ^ k) → (n < 0 ∨ 256 ^ k ≤ n) →
      exec (mk (.list (Values.ofList vs)) w) s = .next (fails (.valueOutOfRange (8 * k) false n) s)) ∧
    (∀ vs : List Value, (Values.ofList vs).wf = true → none ∈ vs.map (number nwk) →
      exec (mk (.list (Values.ofList vs)) w) s = .next (fails (.schemaError (.wrongKind tag)) s)) ∧
    (∀ v : Value, v.wf = true → (∀ vs, v ≠ .list vs) → exec (mk v w) s = .next (fails (.schemaError (.wrongKind tag)) s))

/-- R163, R165, R175: `c` elements of `k` bytes, or the underrun of the first element that is not there. -/
def ReadsCounted (i : Instr) (b : List Byte) (p c k : Nat) (s : State) : Prop :=
  (c = 0 ∨ p + k * c ≤ b.length →
    exec i s =
      .next (gives (.read (.list (Values.ofList ((List.range c).map (fun j => .int (natOf (slice b (p + k * j) k)))))) (p + k * c)) s)) ∧
  (c ≠ 0 → b.length < p + k * c →
    exec i s = .next (fails (.bufferUnderrun (p + k * ((b.length - p) / k)) k) s))

/-- A record list written, and read back wherever it stands. -/
def WritesAndReads (mkW : Value → List Byte → Instr) (mkR : ReadOpts → List Byte → Nat → Instr) (records : List Value)
    (bytes : List Byte) (s : State) : Prop :=
  (∀ w, exec (mkW (.list (Values.ofList records)) w) s = .next (gives (.bytes (w ++ bytes)) s)) ∧
  (∀ w tail (o : ReadOpts), o.length = some records.length →
    exec (mkR o (w ++ bytes ++ tail) w.length) s =
      .next (gives (.read (.list (Values.ofList records)) (w.length + bytes.length)) s))

/-- The two bytes of a 16-bit number, the low byte first. -/
def two (n : BitVec 16) : List Byte := [n.extractLsb' 0 8, n.extractLsb' 8 8]

/-- R56: an identifier on the wire. -/
def eight (t : Eui) : List Byte := [t.t7, t.t6, t.t5, t.t4, t.t3, t.t2, t.t1, t.t0]

/-- R135: a routing-table element. -/
structure Route where
  dest : BitVec 16
  status : Byte
  next : BitVec 16

def Route.value (r : Route) : Value :=
  .record (Fields.ofList [("destNwkAddr", .int r.dest.toNat), ("routeStatus", .int r.status.toNat), ("nextHopNwkAddr", .int r.next.toNat)])

def Route.bytes (r : Route) : List Byte := two r.dest ++ [r.status] ++ two r.next

/-- R136: a bind-table element. -/
structure Bind where
  src : Eui
  srcEp : Byte
  cluster : BitVec 16
  mode : Byte
  dst : Eui
  dstEp : Byte

def Bind.value (b : Bind) : Value :=
  .record (Fields.ofList [("srcAddr", .eui b.src), ("srcEp", .int b.srcEp.toNat), ("clusterId", .int b.cluster.toNat),
    ("dstAddrMode", .int b.mode.toNat), ("dstAddr", .eui b.dst), ("dstEp", .int b.dstEp.toNat)])

def Bind.bytes (b : Bind) : List Byte := eight b.src ++ [b.srcEp] ++ two b.cluster ++ [b.mode] ++ eight b.dst ++ [b.dstEp]

/-- R137: a network element, its packed fields of four bits. -/
structure Net where
  pan : BitVec 16
  channel : Byte
  profile : BitVec 4
  version : BitVec 4
  beacon : BitVec 4
  superFrame : BitVec 4
  permit : Byte

def Net.value (n : Net) : Value :=
  .record (Fields.ofList [("neightborPanId", .int n.pan.toNat), ("logicalChannel", .int n.channel.toNat),
    ("stackProfile", .int n.profile.toNat), ("zigbeeVersion", .int n.version.toNat), ("beaconOrder", .int n.beacon.toNat),
    ("superFrameOrder", .int n.superFrame.toNat), ("permitJoin", .int n.permit.toNat)])

def Net.bytes (n : Net) : List Byte := two n.pan ++ [n.channel, n.version ++ n.profile, n.superFrame ++ n.beacon, n.permit]

/-- R138, the source's vector S5: a neighbor-table record. -/
def neighbor (extPanId extAddr : Eui) : Value :=
  .record (Fields.ofList [("extPanId", .eui extPanId), ("extAddr", .eui extAddr), ("nwkAddr", .int 0xE961), ("deviceType", .int 1),
    ("rxOnWhenIdle", .int 2), ("relationship", .int 2), ("permitJoin", .int 2), ("depth", .int 255), ("lqi", .int 69)])

/-- R134: the fields of a layout in order, each with the bits of its number, none for an identifier. -/
def layoutFields (l : Layout) : List (String × Option Nat) :=
  l.flatMap (fun i =>
    match i with
    | .u8 n => [(n, some 8)]
    | .u16 n => [(n, some 16)]
    | .eui n => [(n, none)]
    | .packed fs => fs.map (fun f => (f.name, some (f.hi + 1 - f.lo))))

/-- R134: a value of the kind that a field takes: `Int` or `Nwk` for a number, `Eui` for an identifier. -/
def kindFits (bits : Option Nat) (v : Value) : Bool :=
  match bits with
  | some _ => (number true v).isSome
  | none =>
    match v with
    | .eui _ => true
    | _ => false

/-- R134: the record has the field, of its kind. -/
def fieldFits (m : Fields) (f : String × Option Nat) : Bool := (m.get? f.1).any (kindFits f.2)

/-- R134: the number of the field, if it is one, fits its bits. -/
def rangeFits (m : Fields) (f : String × Option Nat) : Bool :=
  match f.2 with
  | some bits => ((m.get? f.1).bind (number true)).any (fun n => decide (0 ≤ n ∧ n < 2 ^ bits))
  | none => true

/-- R134: the first element whose names or kinds are wrong: `good` the records before it, `v` the element, `rest` what follows. -/
def RecordKindErrors (mkW : Value → List Byte → Instr) (tag : Nat) (layout : Layout) (s : State) : Prop :=
  ∀ (good : List Fields) (v : Value) (rest : List Value) (w : List Byte),
    (Values.ofList (good.map .record ++ v :: rest)).wf = true → (∀ m ∈ good, ∀ f ∈ layoutFields layout, fieldFits m f = true) →
    ((∀ m, v ≠ .record m) →
      exec (mkW (.list (Values.ofList (good.map .record ++ v :: rest))) w) s = .next (fails (.schemaError (.wrongKind tag)) s)) ∧
    (∀ m before f after, v = .record m → layoutFields layout = before ++ f :: after → (∀ g ∈ before, fieldFits m g = true) →
      (m.get? f.1 = none →
        exec (mkW (.list (Values.ofList (good.map .record ++ v :: rest))) w) s = .next (fails (.schemaError (.missingField f.1)) s)) ∧
      (∀ x, m.get? f.1 = some x → kindFits f.2 x = false →
        exec (mkW (.list (Values.ofList (good.map .record ++ v :: rest))) w) s = .next (fails (.schemaError (.wrongKind tag)) s)))

/-- R134, R303: where all names and kinds are right, the first number that is out of its range. -/
def RecordRangeErrors (mkW : Value → List Byte → Instr) (layout : Layout) (s : State) : Prop :=
  ∀ (good : List Fields) (m : Fields) (rest : List Fields) (w : List Byte) before n bits after k,
    (Values.ofList ((good ++ m :: rest).map .record)).wf = true →
    (∀ r ∈ good ++ m :: rest, ∀ f ∈ layoutFields layout, fieldFits r f = true) →
    (∀ r ∈ good, ∀ f ∈ layoutFields layout, rangeFits r f = true) →
    layoutFields layout = before ++ (n, some bits) :: after → (∀ f ∈ before, rangeFits m f = true) →
    (m.get? n).bind (number true) = some k → (k < 0 ∨ 2 ^ bits ≤ k) →
    exec (mkW (.list (Values.ofList ((good ++ m :: rest).map .record))) w) s = .next (fails (.valueOutOfRange bits false k) s)

/-- R134, R167: where the bytes of all the elements are not there, the read ends at the first item that is not whole: `e` whole elements and
the items `before` come before it. -/
def RecordUnderruns (mkR : ReadOpts → List Byte → Nat → Instr) (layout : Layout) (s : State) : Prop :=
  ∀ (o : ReadOpts) (b : List Byte) (p k : Nat), o.length = some k → k ≠ 0 → layout ≠ [] → b.length < p + k * layout.size →
    ∃ e before i after, e < k ∧ layout = before ++ i :: after ∧
      (p + e * layout.size + Layout.size before ≤ b.length ∨ (e = 0 ∧ before = [])) ∧
      b.length < p + e * layout.size + Layout.size before + i.size ∧
      exec (mkR o b p) s = .next (fails (.bufferUnderrun (p + e * layout.size + Layout.size before) i.size) s)

/-- The errors of a record list (R134, R166, R167), its layout being `layout`. -/
def RecordErrors (mkW : Value → List Byte → Instr) (mkR : ReadOpts → List Byte → Nat → Instr) (tag : Nat) (layout : State → Layout) :
    Prop :=
  ∀ s : State,
    (∀ (v : Value) w, v.wf = true → (∀ vs, v ≠ .list vs) → exec (mkW v w) s = .next (fails (.schemaError (.wrongKind tag)) s)) ∧
    RecordKindErrors mkW tag (layout s) s ∧ RecordRangeErrors mkW (layout s) s ∧
    (∀ (o : ReadOpts) b p, o.length = none → exec (mkR o b p) s = .next (fails (.schemaError (.missingLength tag)) s)) ∧
    (∀ (o : ReadOpts) b p, o.length = some 0 → exec (mkR o b p) s = .next (gives (.read (.list .nil) p) s)) ∧
    RecordUnderruns mkR (layout s) s

/-- R134: the number that a record has under a name. -/
def numberAt (m : Fields) (n : String) : Int := ((m.get? n).bind (number true)).getD 0

/-- R134: bit `j` of a packed byte: a bit of the field that covers it, and 0 where no field does. -/
def packedBit (fs : List BitField) (m : Fields) (j : Nat) : Bool :=
  fs.any (fun f => decide (f.lo ≤ j ∧ j ≤ f.hi) && (numberAt m f.name).toNat.testBit (j - f.lo))

/-- R134: the bytes that an item of a record is written as. -/
def itemBytes (m : Fields) : LayoutItem → List Byte
  | .u8 n => intBytes 1 (numberAt m n)
  | .u16 n => intBytes 2 (numberAt m n)
  | .eui n =>
    match m.get? n with
    | some (.eui t) => eight t
    | _ => []
  | .packed fs => [BitVec.ofNat 8 ((List.range 8).map (fun j => if packedBit fs m j then 2 ^ j else 0)).sum]

/-- R134: the fields that the bytes of an item are read as; of a packed byte, the bits of each field and no other. -/
def itemFields (b : List Byte) : LayoutItem → List (String × Value)
  | .u8 n => [(n, .int (natOf b))]
  | .u16 n => [(n, .int (natOf b))]
  | .eui n =>
    match b with
    | [b0, b1, b2, b3, b4, b5, b6, b7] => [(n, .eui ⟨b7, b6, b5, b4, b3, b2, b1, b0⟩)]
    | _ => []
  | .packed fs => fs.map (fun f => (f.name, .int (natOf b / 2 ^ f.lo % 2 ^ (f.hi + 1 - f.lo) : Nat)))

/-- R134: the fields that the bytes of an element are read as, item after item. -/
def elementFields : Layout → List Byte → List (String × Value)
  | [], _ => []
  | i :: l, b => itemFields (b.take i.size) i ++ elementFields l (b.drop i.size)

/-- R134: a record whose fields have the kinds and ranges that the layout asks for. -/
abbrev recordFits (layout : Layout) (m : Fields) : Prop :=
  m.wf = true ∧ ∀ f ∈ layoutFields layout, fieldFits m f = true ∧ rangeFits m f = true

/-- R134: a record of the layout's fields alone, with plain integers. -/
def recordPlain (layout : Layout) (m : Fields) : Bool :=
  m.toList.all (fun e =>
    layout.names.contains e.1 &&
      match e.2 with
      | .nwk _ => false
      | _ => true)

/-- R134, R166, R167: a record list with any well-formed layout: what its records are written as, what any bytes are read as, and that the one gives
back the other. -/
def RecordsFollowLayout (mkW : Value → List Byte → Instr) (mkR : ReadOpts → List Byte → Nat → Instr) (layout : Layout) (s : State) : Prop :=
  (∀ (ms : List Fields) w, (∀ m ∈ ms, recordFits layout m) →
    exec (mkW (.list (Values.ofList (ms.map .record))) w) s =
      .next (gives (.bytes (w ++ ms.flatMap (fun m => layout.flatMap (itemBytes m)))) s)) ∧
  (∀ (o : ReadOpts) (b : List Byte) (p k : Nat), o.length = some k → p + k * layout.size ≤ b.length →
    exec (mkR o b p) s =
      .next (gives (.read (.list (Values.ofList ((List.range k).map (fun j =>
        .record (Fields.ofList (elementFields layout (slice b (p + j * layout.size) layout.size))))))) (p + k * layout.size)) s)) ∧
  (∀ ms : List Fields, (∀ m ∈ ms, recordFits layout m ∧ recordPlain layout m = true) →
    WritesAndReads mkW mkR (ms.map .record) (ms.flatMap (fun m => layout.flatMap (itemBytes m))) s)

/-! ## Commands -/

/-- R202: `e` is the one entry with this subsystem and wire id (R200: no two share them). -/
abbrev entryOfId (s : State) (u k : Nat) (e : CommandSpec) : Prop :=
  e ∈ s.cmdTable ∧ ∀ d ∈ s.cmdTable, (d.subsystem.toNat = u ∧ d.wireId.toNat = k) ↔ d = e

/-- R203: `e` is the one entry with this subsystem and name (R200). -/
abbrev entryOfName (s : State) (u : Nat) (n : String) (e : CommandSpec) : Prop :=
  e ∈ s.cmdTable ∧ ∀ d ∈ s.cmdTable, (d.subsystem.toNat = u ∧ d.name = n) ↔ d = e

/-- R207: the schema of a frame of type `t`. -/
def schemaOf (e : CommandSpec) : CmdType → Schema
  | .poll => e.requestSchema
  | .sreq => e.requestSchema
  | .areq => e.requestSchema
  | .srsp => e.responseSchema

/-- R73: the number of a type. -/
def typeBits : CmdType → BitVec 3
  | .poll => 0
  | .sreq => 1
  | .areq => 2
  | .srsp => 3

/-- R39, R205: a field that needs no length and whose value reads back as it was. -/
def plainField (p : ParameterSpec) : Value → Bool
  | .int _ => p.derivesLengthFrom.isNone && ([0, 2, 18, 19, 20].contains p.typeTag || (p.typeTag == 1 && !p.isAddress))
  | .nwk _ => p.derivesLengthFrom.isNone && p.typeTag == 1 && p.isAddress
  | .eui _ => p.derivesLengthFrom.isNone && p.typeTag == 3
  | .bytes _ => false
  | .list _ => false
  | .record _ => false

/-- R205 `intval`: the natural number that a field of the payload holds. -/
def naturalAt (m : Fields) (n : String) : Option Nat :=
  match m.get? n with
  | some (.int k) => if 0 ≤ k then some k.toNat else none
  | some (.nwk a) => some a.toNat
  | _ => none

/-- R205: the options that `p` is read with, `before` the fields before it and `m` what they decoded to. Its length source is the field it names, or
else the field just before it; the start index is the value of the field before the source. -/
def threaded (before : Schema) (p : ParameterSpec) (m : Fields) (o : ReadOpts) : Prop :=
  o.isAddress = p.isAddress ∧
    ((before = [] ∧ p.derivesLengthFrom = none ∧ o.length = none ∧ o.startIndex = none) ∨
      ∃ older source newer, before = older ++ source :: newer ∧
        (p.derivesLengthFrom = some source.name ∨ (p.derivesLengthFrom = none ∧ newer = [])) ∧
        o.length = naturalAt m source.name ∧ o.startIndex = older.getLast?.bind (fun q => naturalAt m q.name))

/-- R131: what the operation PREAD of the field's tag returns. -/
abbrev readReturns (s : State) (p : ParameterSpec) (o : ReadOpts) (b : List Byte) (pos : Nat) (r : Response) : Prop :=
  step (withPort [.op .caller (BitVec.ofNat 8 (0x40 + p.typeTag)) [.opts o, .bytes b, .num pos]] s) = .next (returns r (withPort [] s))

/-- R130: what the operation PWRITE of the field's tag returns. -/
abbrev writeReturns (s : State) (p : ParameterSpec) (v : Value) (w : List Byte) (r : Response) : Prop :=
  step (withPort [.op .caller (BitVec.ofNat 8 (0x20 + p.typeTag)) [.value v, .bytes w]] s) = .next (returns r (withPort [] s))

/-- The kinds of R11, an integer and a network address taken as one (R258). -/
def kindNumber : Value → Nat
  | .int _ => 0
  | .nwk _ => 0
  | .eui _ => 1
  | .bytes _ => 2
  | .list _ => 3
  | .record _ => 4

/-- Two field values that match (R258), or two fields that are both absent. -/
def sameField : Option Value → Option Value → Prop
  | none, none => True
  | some v, some w => v.eqv w = true
  | _, _ => False

/-- Every field of the schema is such a field of the payload. -/
abbrev plainPayload (sch : Schema) (m : Fields) : Prop := ∀ p ∈ sch, (m.get? p.name).any (plainField p) = true

/-! ## Requests -/

/-- R241: the object of a request and its encoded frame. -/
abbrev built (s : State) (u : Nat) (n : String) (p : Fields) (o : CommandObject) (bytes : List Byte) : Prop :=
  fromCommand s.cmdTable u n p = .ok o ∧ (toFrame s.config o).bind encodeFrame = .ok bytes

/-- R213: the two reset commands. -/
abbrev isReset (o : CommandObject) : Prop := (o.subsystem = 1 ∧ o.name = "resetReq") ∨ (o.subsystem = 6 ∧ o.name = "systemReset")

/-- R247: the timeout of an SREQ. -/
def sreqTimeout (s : State) (o : CommandObject) : Nat :=
  if (o.subsystem, o.name) ∈ s.config.longRunning then s.config.tLong else s.config.tSreq

/-- R243, R244: a request issued: its waiter is registered, its frame is on `TX`, it holds the gate and awaits its reply. -/
def issued (rid : Nat) (t : CmdType) (u : Subsystem) (n : String) (timeout : Nat) (c : ReqCtx) (s : State) : State :=
  { s with
    nextWid := s.nextWid + 1
    gate := .held rid
    tx := s.tx ++ [c.bytes]
    waiters := s.waiters ++ [⟨s.nextWid, t, u, n, .nil, s.now + timeout, .req rid⟩]
    slots := FMap.set s.nextWid ⟨.pending, false⟩ s.slots
    reqs := FMap.set rid { c with phase := .awaitingReply, wid := some s.nextWid } s.reqs }

/-- R254: the completion of a waiter's AWAIT, or of its request, when the waiter expires (R250, R261). -/
def expiryCompletion (s : State) (x : Waiter) : Option Completion :=
  match x.owner with
  | .req rid => (FMap.get? rid s.reqs).map (fun c => ⟨.req rid, .err (.requestTimeout c.obj.subsystem c.obj.name)⟩)
  | .caller =>
    if (FMap.get? x.wid s.slots).any (·.awaited) then some ⟨.waiter x.wid, .err (.requestTimeout x.subsystem x.name)⟩ else none

/-- The same when the waiter fails at a disconnect (R263). -/
def failureCompletion (s : State) (x : Waiter) : Option Completion :=
  match x.owner with
  | .req rid => some ⟨.req rid, .err .disconnected⟩
  | .caller => if (FMap.get? x.wid s.slots).any (·.awaited) then some ⟨.waiter x.wid, .err .disconnected⟩ else none

/-- R257: `x` is the oldest waiter that the object of `f` matches. -/
abbrev firstMatch (s : State) (f : Frame) (o : CommandObject) (older : List Waiter) (x : Waiter) (newer : List Waiter) : Prop :=
  f.valid = true ∧ fromFrame s.cmdTable s.config f = .ok o ∧ s.waiters = older ++ x :: newer ∧
    (∀ y ∈ older, waiterMatches o y = false) ∧ waiterMatches o x = true

/-- R248: what a response means to its request. -/
def responseOutcome (expected : List Int) (o : CommandObject) : DoneOutcome :=
  match o.payload.get? "status" with
  | none => .ok o
  | some (.int n) => if 0 ≤ n ∧ n ∈ expected then .ok o else .err (.statusRejected (.int n))
  | some (.nwk a) => if (a.toNat : Int) ∈ expected then .ok o else .err (.statusRejected (.nwk a))
  | some v => .err (.statusRejected v)

end Sys2Proof.Claim

open Sys2Proof Sys2Proof.Machine Sys2Proof.Claim

/-! ## Encoding -/

/-- R70, R79, R80: what `encode` presents decodes to the instruction it came from, every operand kept. -/
def Obligations.DecodeEncodeAgree : Prop := ∀ i : Instr, i.WellFormed → decode (encode i) = .ok i

/-- R79, R80, R86: an input that decodes is what `encode` presents for its instruction, but for who presents it; and a chunk that is no whole
frame is an RX_PUSH of it. -/
def Obligations.EncodeDecodeAgree : Prop :=
  (∀ who op r i, decode (.op who op r) = .ok i → ∃ by', encode i = .op by' op r) ∧
  (∀ bs i, decode (.wire bs) = .ok i → (i = .rxPush bs ∧ decodeFrame bs = none) ∨ (encode i = .wire bs ∧ i.WellFormed))

/-- R79, R86: words written out from the encoding tables decode to the instructions they stand for. -/
def Obligations.TableWordsDecode : Prop :=
  decode (.op .caller 0b00000010 [.bytes [0x5A]]) = .ok (.checksum [0x5A]) ∧
  decode (.op .caller 0b00110010 [.value (.int (-1)), .bytes []]) = .ok (.pwriteInt8 (.int (-1)) []) ∧
  decode (.op .caller 0b01010001 [.opts ⟨some 3, some 1, false⟩, .bytes [1, 0, 2, 0], .num 0]) =
    .ok (.preadListAssocDev ⟨some 3, some 1, false⟩ [1, 0, 2, 0] 0) ∧
  decode (.op .caller 0b01100101 [.num 1, .num 2]) = .ok (.lookupById 1 2) ∧
  decode (.op .clock 0b10000101 [.num 250]) = .ok (.tick 250) ∧
  decode (.op .block 0b11100001 []) = .ok .gateGrant ∧
  decode (.wire [0xFE, 0x01, 0b01000001, 0x00, 0x01, 0x41]) = .ok (.frameAreq 1 1 0 [1] 0x41) ∧
  decode (.wire [0xFE, 0x00, 0b10100001, 0x02, 0xA3]) = .ok (.frameReservedType 1 0 1 2 [] 0xA3)

/-- R86: the header word selects the frame kind by its marker and its three type bits alone. -/
def Obligations.HeaderSelectsKind : Prop :=
  ∀ b0 b1 b2 b3 : Byte,
    headerKind (headerWord b0 b1 b2 b3) =
      if b0 = 0xFE then
        some (match (b2.extractLsb' 5 3).toNat with
          | 0 => .poll
          | 1 => .sreq
          | 2 => .areq
          | 3 => .srsp
          | _ => .reservedType)
      else none

/-- R81: a word that is not in the opcode map, or an internal word that an agent presents, raises IllegalOperation and changes no state; units 1
and 2 have no illegal word. -/
def Obligations.IllegalWordsChangeNothing : Prop :=
  (∀ (who : Agent) (op : Byte) (r : List Operand) (rest : List Input) (s : State),
    definedWord op = false ∨ (who ≠ .block ∧ (op = 0xE0 ∨ op = 0xE1)) →
    step (withPort (.op who op r :: rest) s) = .next (fails (.illegalOperation op) (withPort rest s))) ∧
  (∀ (who : Agent) (op : Byte) (r : List Operand), 0x20 ≤ op.toNat → op.toNat < 0x60 →
    decode (.op who op r) ≠ .error (.illegalWord op))

/-- R83: a tag without a rule raises UnsupportedParameterType, in an operation word and in a schema. -/
def Obligations.TagsWithoutRule : Prop :=
  (∀ (who : Agent) (op : Byte) (v : Value) (w : List Byte) (rest : List Input) (s : State),
    0x20 ≤ op.toNat → op.toNat < 0x40 → 21 ≤ op.toNat % 32 → v.wf = true →
    step (withPort (.op who op [.value v, .bytes w] :: rest) s) =
      .next (fails (.unsupportedParameterType (op.toNat % 32)) (withPort rest s))) ∧
  (∀ (who : Agent) (op : Byte) (o : ReadOpts) (b : List Byte) (p : Nat) (rest : List Input) (s : State),
    0x40 ≤ op.toNat → op.toNat < 0x60 → 21 ≤ op.toNat % 32 →
    step (withPort (.op who op [.opts o, .bytes b, .num p] :: rest) s) =
      .next (fails (.unsupportedParameterType (op.toNat % 32)) (withPort rest s))) ∧
  (∀ (cfg : Config) (tag : Nat) (v : Value) (w : List Byte), 21 ≤ tag →
    pwrite cfg tag v w = .error (.unsupportedParameterType tag)) ∧
  (∀ (cfg : Config) (tag : Nat) (o : ReadOpts) (b : List Byte) (p : Nat), 21 ≤ tag →
    pread cfg tag o b p = .error (.unsupportedParameterType tag))

/-- A step takes the first input and runs the instruction it decodes to; with no input the block takes an enabled GATE_GRANT, and else idles
(the model's choice, notes/assumptions/1). -/
def Obligations.StepRunsDecodedInstruction : Prop :=
  (∀ (s : State) (x : Input) (rest : List Input) (i : Instr), s.port = x :: rest → decode x = .ok i → i.WellFormed →
    step s = exec i (withPort rest s)) ∧
  (∀ s : State, s.port = [] → s.gate = .free → s.gateQueue ≠ [] → step s = exec .gateGrant s) ∧
  (∀ s : State, s.port = [] → (s.gate ≠ .free ∨ s.gateQueue = []) → step s = .next s)

/-! ## Frame Codec -/

/-- R100: CHECKSUM gives the XOR of the bytes, 0 for none and for a sequence followed by itself. -/
def Obligations.ChecksumIsXorOfBytes : Prop :=
  ∀ (b : List Byte) (s : State),
    exec (.checksum b) s = .next (gives (.byte (fold b)) s) ∧
    exec (.checksum []) s = .next (gives (.byte 0) s) ∧
    exec (.checksum (b ++ b)) s = .next (gives (.byte 0) s)

/-- R101: FRAME_ENCODE builds the frame, or reports the type before the length; operands out of range are refused first. -/
def Obligations.FrameEncodeBuildsFrame : Prop :=
  ∀ (c u k : Nat) (p : List Byte) (s : State),
    (c ≤ 3 → u ≤ 255 → k ≤ 255 → p.length ≤ 255 →
      exec (.frameEncode c u k p) s =
        .next (gives (.bytes ([0xFE, BitVec.ofNat 8 p.length, cmd (BitVec.ofNat 3 c) (BitVec.ofNat 5 u), BitVec.ofNat 8 k] ++ p ++
          [fold ([BitVec.ofNat 8 p.length, cmd (BitVec.ofNat 3 c) (BitVec.ofNat 5 u), BitVec.ofNat 8 k] ++ p)])) s)) ∧
    (3 < c → c ≤ 7 → u ≤ 255 → k ≤ 255 → exec (.frameEncode c u k p) s = .next (fails (.reservedCommandType c) s)) ∧
    (c ≤ 3 → u ≤ 255 → k ≤ 255 → 255 < p.length → exec (.frameEncode c u k p) s = .next (fails (.payloadTooLong p.length) s)) ∧
    (7 < c ∨ 255 < u ∨ 255 < k → exec (.frameEncode c u k p) s = .next (fails (.illegalOperation 0x00) s))

/-- R104, R107, R111: bytes that are not yet more than MIN_FRAME_LEN, or not yet a whole frame, stay and wait. -/
def Obligations.PartialFramesWait : Prop :=
  ∀ (s : State) (chunk : List Byte), chunkFits s chunk → (s.rxbuf ++ chunk).head? = some 0xFE →
    ((s.rxbuf ++ chunk).length ≤ s.config.minFrameLen ∨
      ∃ l ∈ (s.rxbuf ++ chunk)[1]?, (s.rxbuf ++ chunk).length < 5 + l.toNat) →
    exec (.rxPush chunk) s = .next (gives .none { s with rxbuf := s.rxbuf ++ chunk })

/-- R108 to R110, R112, R115: a whole frame at the head is sliced off, delivered or reported, and in LOOP mode the push goes on. -/
def Obligations.WholeFrameIsExtracted : Prop :=
  ∀ (s : State) (chunk : List Byte) (l c id : Byte) (p : List Byte) (x : Byte) (rest : List Byte), chunkFits s chunk →
    s.rxbuf ++ chunk = [0xFE, l, c, id] ++ p ++ [x] ++ rest → p.length = l.toNat → s.config.minFrameLen < (s.rxbuf ++ chunk).length →
    exec (.rxPush chunk) s = .next (gives .none (drained (extracted l c id p x { s with rxbuf := rest })))

/-- R105, R106: what a push does with a leading byte that is not the marker, in either mode. -/
def Obligations.ResynchronisationDropsNoise : Prop :=
  (∀ (s : State) (chunk : List Byte) (b : Byte), s.config.resyncMode = .discardAll → chunkFits s chunk →
    (s.rxbuf ++ chunk).head? = some b → b ≠ 0xFE → exec (.rxPush chunk) s = .next (gives .none { s with rxbuf := [] })) ∧
  (∀ (s : State) (chunk noise tail : List Byte), s.config.resyncMode = .scanForward → chunkFits s chunk →
    s.rxbuf ++ chunk = noise ++ 0xFE :: tail → noise ≠ [] → (∀ b ∈ noise, b ≠ 0xFE) →
    exec (.rxPush chunk) s = .next (gives .none (receiveChunk [] { s with rxbuf := 0xFE :: tail }))) ∧
  (∀ (s : State) (chunk : List Byte), s.config.resyncMode = .scanForward → chunkFits s chunk →
    (∀ b ∈ s.rxbuf ++ chunk, b ≠ 0xFE) → exec (.rxPush chunk) s = .next (gives .none { s with rxbuf := [] }))

/-- R113, R114: a chunk beyond the capacity is refused whole; an empty chunk into an empty accumulator does nothing. -/
def Obligations.OverflowRefusesChunk : Prop :=
  (∀ (s : State) (chunk : List Byte) (cap : Nat), s.config.rxbufCap = some cap → cap < s.rxbuf.length + chunk.length →
    exec (.rxPush chunk) s = .next (gives .none { s with evt := s.evt ++ [.rxError .rxOverflow (.chunk chunk.length)] })) ∧
  (∀ s : State, s.rxbuf = [] → exec (.rxPush []) s = .next (gives .none s))

/-- R116: an encoded frame comes out of the accumulator as the Frame it encodes, whole or split in two at any point, and what follows it is kept
for the next frame. -/
def Obligations.FrameRoundTripThroughChunks : Prop :=
  ∀ (s : State) (f : Frame) (bytes extra a b : List Byte), f.valid = true → f.commandType.toNat ≤ 3 → encodeFrame f = .ok bytes →
    s.rxbuf = [] → s.config.minFrameLen = 5 → (∀ c ∈ s.config.rxbufCap, bytes.length + extra.length ≤ c) →
    (f.payload = [] → extra ≠ []) → bytes = a ++ b → b ≠ [] →
    exec (.rxPush (bytes ++ extra)) s = .next (gives .none (drained (frameReceived f { s with rxbuf := extra }))) ∧
    exec (.rxPush a) s = .next (gives .none { s with rxbuf := a }) ∧
    exec (.rxPush (b ++ extra)) (gives .none { s with rxbuf := a }) =
      .next (gives .none (drained (frameReceived f (gives .none { s with rxbuf := extra }))))

/-- R70, R86, R109 to R111 (and notes/assumptions/4): each frame kind is received as the chunk of its bytes; into an empty accumulator it is delivered or
reported in that step. -/
def Obligations.WireFramesAreReceived : Prop :=
  (∀ (l : Byte) (u : Subsystem) (k : Byte) (p : List Byte) (x : Byte) (s : State),
    exec (.framePoll l u k p x) s = exec (.rxPush (frameBytes 0 l u k p x)) s ∧
    exec (.frameSreq l u k p x) s = exec (.rxPush (frameBytes 1 l u k p x)) s ∧
    exec (.frameAreq l u k p x) s = exec (.rxPush (frameBytes 2 l u k p x)) s ∧
    exec (.frameSrsp l u k p x) s = exec (.rxPush (frameBytes 3 l u k p x)) s ∧
    (∀ t : BitVec 2, exec (.frameReservedType t l u k p x) s = exec (.rxPush (frameBytes ((1 : BitVec 1) ++ t) l u k p x)) s)) ∧
  (∀ (l : Byte) (u : Subsystem) (k : Byte) (p : List Byte) (x : Byte) (s : State),
    p.length = l.toNat → s.rxbuf = [] → s.config.drainMode = .single → s.config.minFrameLen < 5 + l.toNat →
    (∀ c ∈ s.config.rxbufCap, 5 + l.toNat ≤ c) →
    exec (.framePoll l u k p x) s = .next (gives .none (extracted l (cmd 0 u) k p x s)) ∧
    exec (.frameSreq l u k p x) s = .next (gives .none (extracted l (cmd 1 u) k p x s)) ∧
    exec (.frameAreq l u k p x) s = .next (gives .none (extracted l (cmd 2 u) k p x s)) ∧
    exec (.frameSrsp l u k p x) s = .next (gives .none (extracted l (cmd 3 u) k p x s)) ∧
    (∀ t : BitVec 2, exec (.frameReservedType t l u k p x) s = .next (gives .none (extracted l (cmd ((1 : BitVec 1) ++ t) u) k p x s))))

/-! ## Parameter Codec -/

/-- R140, R142, R144, R176, R178, R180: the integer tags append little-endian bytes, or report the range or the kind, and write nothing. -/
def Obligations.IntegerTagsWriteBytes : Prop :=
  WritesInt .pwriteUint8 0 1 0 255 false ∧ WritesInt .pwriteUint16 1 2 0 0xFFFF true ∧ WritesInt .pwriteUint32 2 4 0 0xFFFFFFFF false ∧
  WritesInt .pwriteInt8 18 1 (-128) 127 false ∧ WritesInt .pwriteInt16 19 2 (-32768) 32767 false ∧
  WritesInt .pwriteInt32 20 4 (-(2 ^ 31)) (2 ^ 31 - 1) false

/-- R141, R143, R145, R177, R179, R181: the integer tags read little-endian bytes, two's complement where signed, or underrun. -/
def Obligations.IntegerTagsReadBytes : Prop :=
  ReadsInt .preadUint8 1 false false ∧ ReadsInt .preadUint16 2 false true ∧ ReadsInt .preadUint32 4 false false ∧
  ReadsInt .preadInt8 1 true false ∧ ReadsInt .preadInt16 2 true false ∧ ReadsInt .preadInt32 4 true false

/-- R146, R147: an identifier is written with its textual bytes reversed, and read back so. -/
def Obligations.IdentifierBytesReversed : Prop :=
  (∀ (t : Eui) (w : List Byte) (s : State),
    exec (.pwriteIeeeaddr (.eui t) w) s = .next (gives (.bytes (w ++ [t.t7, t.t6, t.t5, t.t4, t.t3, t.t2, t.t1, t.t0])) s)) ∧
  (∀ (v : Value) (w : List Byte) (s : State), v.wf = true → (∀ t, v ≠ .eui t) →
    exec (.pwriteIeeeaddr v w) s = .next (fails (.schemaError (.wrongKind 3)) s)) ∧
  (∀ (o : ReadOpts) (w tail : List Byte) (b0 b1 b2 b3 b4 b5 b6 b7 : Byte) (s : State),
    exec (.preadIeeeaddr o (w ++ [b0, b1, b2, b3, b4, b5, b6, b7] ++ tail) w.length) s =
      .next (gives (.read (.eui ⟨b7, b6, b5, b4, b3, b2, b1, b0⟩) (w.length + 8)) s)) ∧
  (∀ (o : ReadOpts) (b : List Byte) (p : Nat) (s : State), b.length < p + 8 →
    exec (.preadIeeeaddr o b p) s = .next (fails (.bufferUnderrun p 8) s))

/-- R148 to R161: every buffer tag copies its bytes verbatim, unprefixed and of any length; a sized buffer reads its size, the generic one its length
option. -/
def Obligations.BufferTagsCopyAndRead : Prop :=
  WritesBytes .pwriteBuffer 4 ∧ WritesBytes .pwriteBuffer8 5 ∧ WritesBytes .pwriteBuffer16 6 ∧ WritesBytes .pwriteBuffer18 7 ∧
  WritesBytes .pwriteBuffer32 8 ∧ WritesBytes .pwriteBuffer42 9 ∧ WritesBytes .pwriteBuffer100 10 ∧
  (∀ (o : ReadOpts) (b : List Byte) (p : Nat) (s : State),
    (∀ n, o.length = some n → p + n ≤ b.length →
      exec (.preadBuffer o b p) s = .next (gives (.read (.bytes (slice b p n)) (p + n)) s)) ∧
    (∀ n, o.length = some n → b.length < p + n → exec (.preadBuffer o b p) s = .next (fails (.bufferUnderrun p n) s)) ∧
    (o.length = none → exec (.preadBuffer o b p) s = .next (fails (.schemaError (.missingLength 4)) s))) ∧
  ReadsBytes .preadBuffer8 8 ∧ ReadsBytes .preadBuffer16 16 ∧ ReadsBytes .preadBuffer18 18 ∧ ReadsBytes .preadBuffer32 32 ∧
  ReadsBytes .preadBuffer42 42 ∧ ReadsBytes .preadBuffer100 100

/-- R162, R164, R174: the integer lists write each element in order and no count. Kinds before ranges over the whole list: notes/assumptions/17. -/
def Obligations.IntegerListsWriteElements : Prop :=
  WritesIntList .pwriteListUint8 11 1 false ∧ WritesIntList .pwriteListUint16 12 2 true ∧ WritesIntList .pwriteListAssocDev 17 2 true

/-- R163, R165, R175 with the default of R139: the integer lists read as many elements as their options say. Where an underrun is reported is
the model's choice, notes/assumptions/30. -/
def Obligations.IntegerListsReadElements : Prop :=
  ∀ (o : ReadOpts) (b : List Byte) (p : Nat) (s : State),
    (∀ c, o.length = some c → ReadsCounted (.preadListUint8 o b p) b p c 1 s) ∧
    (∀ c, o.length = some c → ReadsCounted (.preadListUint16 o b p) b p c 2 s) ∧
    (∀ c i, o.length = some c → o.startIndex = some i → s.config.assocCount = .lengthMinusStart →
      ReadsCounted (.preadListAssocDev o b p) b p (c - i) 2 s) ∧
    (o.length = none → exec (.preadListUint8 o b p) s = .next (fails (.schemaError (.missingLength 11)) s)) ∧
    (o.length = none → exec (.preadListUint16 o b p) s = .next (fails (.schemaError (.missingLength 12)) s)) ∧
    (o.length = none ∨ o.startIndex = none →
      exec (.preadListAssocDev o b p) s = .next (fails (.schemaError (.missingLength 17)) s))

/-- R134 to R137, R166 to R169, R172, R173 with the default layouts: the routing-table, bind-table and network lists write these bytes and no
count, and read them back. -/
def Obligations.DefaultRecordListsRoundTrip : Prop :=
  ∀ s : State,
    (s.config.layoutRouting = Config.defaultLayoutRouting → ∀ l : List Route,
      WritesAndReads .pwriteListRoutingTable .preadListRoutingTable (l.map Route.value) (l.flatMap Route.bytes) s) ∧
    (s.config.layoutBind = Config.defaultLayoutBind → ∀ l : List Bind,
      WritesAndReads .pwriteListBindTable .preadListBindTable (l.map Bind.value) (l.flatMap Bind.bytes) s) ∧
    (s.config.layoutNetwork = Config.defaultLayoutNetwork → ∀ l : List Net,
      WritesAndReads .pwriteListNetwork .preadListNetwork (l.map Net.value) (l.flatMap Net.bytes) s)

/-- R131, R134, R166, R167: the errors of the record lists, whatever the layout: wrong kinds of the value, of an element and of a field, missing
fields, numbers out of their range, missing lengths and underruns; and the empty list. Kinds and names of the whole list before ranges:
notes/assumptions/17; the kinds and the info of a packed field: 18; where an underrun is reported: 30. -/
def Obligations.RecordListErrors : Prop :=
  RecordErrors .pwriteListRoutingTable .preadListRoutingTable 13 (·.config.layoutRouting) ∧
  RecordErrors .pwriteListBindTable .preadListBindTable 14 (·.config.layoutBind) ∧
  RecordErrors .pwriteListNeighborLqi .preadListNeighborLqi 15 (·.config.layoutNeighbor) ∧
  RecordErrors .pwriteListNetwork .preadListNetwork 16 (·.config.layoutNetwork)

/-- R134, R166 to R173: the four record lists with whatever well-formed layouts the block has: the bytes written are the items' bytes in order, bits of a
packed byte that no field covers 0; any bytes are read field by field, uncovered bits dropped; and records in range read back (the kinds of packed fields:
notes/assumptions/18). R138, R170, R171 and the source's vector S5: whatever conforming layout the block has (what conforms: notes/assumptions/6), the
neighbor-table record takes 23 bytes and reads back. -/
def Obligations.RecordListsFollowLayouts : Prop :=
  (∀ s : State,
    (s.config.layoutRouting.wf = true → RecordsFollowLayout .pwriteListRoutingTable .preadListRoutingTable s.config.layoutRouting s) ∧
    (s.config.layoutBind.wf = true → RecordsFollowLayout .pwriteListBindTable .preadListBindTable s.config.layoutBind s) ∧
    (s.config.layoutNeighbor.wf = true → RecordsFollowLayout .pwriteListNeighborLqi .preadListNeighborLqi s.config.layoutNeighbor s) ∧
    (s.config.layoutNetwork.wf = true → RecordsFollowLayout .pwriteListNetwork .preadListNetwork s.config.layoutNetwork s)) ∧
  ∀ (s : State) (extPanId extAddr : Eui), s.config.layoutNeighbor.neighborConforms = true →
    ∃ bytes : List Byte, bytes.length = 23 ∧
      WritesAndReads .pwriteListNeighborLqi .preadListNeighborLqi [neighbor extPanId extAddr] bytes s

/-! ## Command Table and Command Object -/

/-- R202, R203: a lookup gives the entry, or UnknownCommand with its key. -/
def Obligations.LookupsFindTheEntry : Prop :=
  ∀ (u k : Nat) (n : String) (s : State),
    (∀ e, u < 32 → k ≤ 255 → entryOfId s u k e → exec (.lookupById u k) s = .next (gives (.spec e) s)) ∧
    (u < 32 → k ≤ 255 → (∀ d ∈ s.cmdTable, ¬(d.subsystem.toNat = u ∧ d.wireId.toNat = k)) →
      exec (.lookupById u k) s = .next (fails (.unknownCommand (.byId u k)) s)) ∧
    (32 ≤ u ∨ 255 < k → exec (.lookupById u k) s = .next (fails (.illegalOperation 0x65) s)) ∧
    (∀ e, u < 32 → entryOfName s u n e → exec (.lookupByName u n) s = .next (gives (.spec e) s)) ∧
    (u < 32 → (∀ d ∈ s.cmdTable, ¬(d.subsystem.toNat = u ∧ d.name = n)) →
      exec (.lookupByName u n) s = .next (fails (.unknownCommand (.byName u n)) s))

/-- R207: FROM_FRAME takes the schema by the frame's type, and reports a reserved type, then an unknown id, then the walk's error. That it takes a Frame
whose length or checksum field does not fit is the model's reading (notes/assumptions/23). -/
def Obligations.FromFrameBindsPayload : Prop :=
  ∀ (f : Frame) (s : State),
    (∀ t e m, f.commandType = typeBits t → entryOfId s f.subsystem.toNat f.commandId.toNat e →
      readSchema s.config (schemaOf e t) f.payload = .ok m →
      exec (.fromFrame f) s = .next (gives (.object ⟨t, f.subsystem, e.name, f.commandId, m, schemaOf e t, none⟩) s)) ∧
    (∀ t e x, f.commandType = typeBits t → entryOfId s f.subsystem.toNat f.commandId.toNat e →
      readSchema s.config (schemaOf e t) f.payload = .error x → exec (.fromFrame f) s = .next (fails x s)) ∧
    (f.commandType.toNat ≤ 3 → (∀ d ∈ s.cmdTable, ¬(d.subsystem = f.subsystem ∧ d.wireId = f.commandId)) →
      exec (.fromFrame f) s = .next (fails (.unknownCommand (.byId f.subsystem.toNat f.commandId.toNat)) s)) ∧
    (3 < f.commandType.toNat → exec (.fromFrame f) s = .next (fails (.reservedCommandType f.commandType.toNat) s))

/-- R206, R208, R102: TO_FRAME writes the fields of the object's schema in order as PWRITE of their tags does, and gives a valid Frame with the object's
type, whose encoding is its own bytes; errors of the walk, a missing field among them, come before the length. -/
def Obligations.ToFrameGivesValidFrame : Prop :=
  ∀ (o : CommandObject) (s : State), o.payload.wf = true → (o.schemaUsed.map (·.name)).Nodup →
    writeSchema s.config [] o.payload = .ok [] ∧
    (∀ before p after w, o.schemaUsed = before ++ p :: after → writeSchema s.config before o.payload = .ok w →
      (o.payload.get? p.name = none → exec (.toFrame o) s = .next (fails (.schemaError (.missingField p.name)) s)) ∧
      (∀ v, o.payload.get? p.name = some v →
        (∀ w', p.typeTag < 32 → writeReturns s p v w (.ok (.bytes w')) → writeSchema s.config (before ++ [p]) o.payload = .ok w') ∧
        (∀ x, p.typeTag < 32 → writeReturns s p v w (.err x) → exec (.toFrame o) s = .next (fails x s)) ∧
        (21 ≤ p.typeTag → exec (.toFrame o) s = .next (fails (.unsupportedParameterType p.typeTag) s)))) ∧
    (∀ bs, writeSchema s.config o.schemaUsed o.payload = .ok bs → bs.length ≤ 255 →
      ∃ f : Frame, exec (.toFrame o) s = .next (gives (.frame f) s) ∧ f.commandType = typeBits o.commandType ∧
        f.subsystem = o.subsystem ∧ f.commandId = o.wireId ∧ f.payload = bs ∧ f.length.toNat = bs.length ∧
        f.checksum = fold ([f.length, cmd f.commandType f.subsystem, f.commandId] ++ bs) ∧ f.valid = true ∧
        encodeFrame f = .ok (frameBytes f.commandType f.length f.subsystem f.commandId bs f.checksum)) ∧
    (∀ bs, writeSchema s.config o.schemaUsed o.payload = .ok bs → 255 < bs.length →
      exec (.toFrame o) s = .next (fails (.payloadTooLong bs.length) s)) ∧
    (∀ x, writeSchema s.config o.schemaUsed o.payload = .error x → exec (.toFrame o) s = .next (fails x s))

/-- R209: FROM_COMMAND binds the payload unchecked, with the schema of the entry's direction. -/
def Obligations.FromCommandBindsPayload : Prop :=
  ∀ (u : Nat) (n : String) (m : Fields) (s : State), u < 32 → m.wf = true →
    (∀ e, entryOfName s u n e →
      exec (.fromCommand u n m) s = .next (gives (.object ⟨e.direction, e.subsystem, n, e.wireId, m, schemaOf e e.direction, none⟩) s)) ∧
    ((∀ d ∈ s.cmdTable, ¬(d.subsystem.toNat = u ∧ d.name = n)) →
      exec (.fromCommand u n m) s = .next (fails (.unknownCommand (.byName u n)) s))

/-- R210, R80: the application path of FROM_CLUSTER builds the fixed field set of `dataRequest`, with the names of R210 (notes/assumptions/34); operands
out of range end it, on either path. -/
def Obligations.FromClusterBuildsDataRequest : Prop :=
  ∀ (dst profile cluster srcEp dstEp tsn : Nat) (data : List Byte) (s : State),
    (dst ≤ 0xFFFF → profile ≤ 0xFFFF → cluster ≤ 0xFFFF → srcEp ≤ 255 → dstEp ≤ 255 → tsn ≤ 255 → profile ≠ s.config.zdoProfile.toNat →
    (∀ e, entryOfName s 4 "dataRequest" e →
      exec (.fromCluster dst profile cluster srcEp dstEp tsn data) s =
        .next (gives (.object ⟨e.direction, 4, "dataRequest", e.wireId,
          .cons "clusterid" (.int cluster) (.cons "data" (.bytes data) (.cons "destendpoint" (.int dstEp)
            (.cons "dstaddr" (.nwk (BitVec.ofNat 16 dst)) (.cons "len" (.int data.length) (.cons "options" (.int s.config.afOptions.toNat)
              (.cons "radius" (.int s.config.afRadius.toNat) (.cons "srcendpoint" (.int srcEp) (.cons "transid" (.int tsn) .nil)))))))),
          e.requestSchema, some tsn⟩) s)) ∧
    ((∀ d ∈ s.cmdTable, ¬(d.subsystem = 4 ∧ d.name = "dataRequest")) →
      exec (.fromCluster dst profile cluster srcEp dstEp tsn data) s =
        .next (fails (.unknownCommand (.byName 4 "dataRequest")) s))) ∧
    (0xFFFF < dst ∨ 0xFFFF < profile ∨ 0xFFFF < cluster ∨ 255 < srcEp ∨ 255 < dstEp ∨ 255 < tsn →
      exec (.fromCluster dst profile cluster srcEp dstEp tsn data) s = .next (fails (.illegalOperation 0x63) s))

/-- R211, R212: the discovery path of FROM_CLUSTER decodes the address and the data, behind the address mode in the special case. -/
def Obligations.FromClusterDecodesDiscovery : Prop :=
  ∀ (dst cluster srcEp dstEp tsn : Nat) (data : List Byte) (s : State),
    dst ≤ 0xFFFF → cluster ≤ 0xFFFF → srcEp ≤ 255 → dstEp ≤ 255 → tsn ≤ 255 →
    (∀ e r, cluster ≤ 255 → entryOfId s 5 cluster e →
      readSchema s.config e.requestSchema
        ((if (BitVec.ofNat 16 dst, BitVec.ofNat 16 cluster) ∈ s.config.bcastPermitJoin then [s.config.pjAddrMode] else []) ++
          two (BitVec.ofNat 16 dst) ++ data) = r →
      exec (.fromCluster dst s.config.zdoProfile.toNat cluster srcEp dstEp tsn data) s =
        .next (match r with
          | .ok m => gives (.object ⟨e.direction, 5, e.name, BitVec.ofNat 8 cluster, m, e.requestSchema, some tsn⟩) s
          | .error x => fails x s)) ∧
    (255 < cluster ∨ (∀ d ∈ s.cmdTable, ¬(d.subsystem = 5 ∧ d.wireId.toNat = cluster)) →
      exec (.fromCluster dst s.config.zdoProfile.toNat cluster srcEp dstEp tsn data) s =
        .next (fails (.unknownCommand (.byId 5 cluster)) s))

/-- R213: IS_RESET_COMMAND is true of the two reset commands, whatever the command type. -/
def Obligations.ResetCommandsRecognised : Prop :=
  ∀ (o : CommandObject) (s : State), o.payload.wf = true → (o.schemaUsed.map (·.name)).Nodup →
    exec (.isResetCommand o) s = .next (gives (.bool (decide (isReset o))) s)

/-- R207, R208, R215 and the source's vector S2: the version response decodes to its six fields, and the object gives the same Frame back. -/
def Obligations.VersionResponseRoundTrip : Prop :=
  ∀ (s : State) (a b c d e : Byte) (r : BitVec 32), entryOfId s 1 2 CommandSpec.version →
    ∃ (f : Frame) (o : CommandObject),
      f.commandType = 3 ∧ f.subsystem = 1 ∧ f.commandId = 2 ∧
      f.payload = [a, b, c, d, e, r.extractLsb' 0 8, r.extractLsb' 8 8, r.extractLsb' 16 8, r.extractLsb' 24 8] ∧
      exec (.fromFrame f) s = .next (gives (.object o) s) ∧ exec (.toFrame o) s = .next (gives (.frame f) s) ∧
      o.commandType = .srsp ∧ o.name = "version" ∧
      o.payload = Fields.ofList [("transportrev", .int a.toNat), ("product", .int b.toNat), ("majorrel", .int c.toNat),
        ("minorrel", .int d.toNat), ("maintrel", .int e.toNat), ("revision", .int r.toNat)]

/-- R205: bytes after the last field take no part in a schema's decoding; and, one field after another, each field is read as PREAD of its tag at the
place where the fields before it end, with the length and the start index that they give it; a field that names no field before it is a BadReference, whose info is the name of that
referring field by the model's choice (notes/assumptions/19). -/
def Obligations.DecodeWalkThreadsLengths : Prop :=
  (∀ (cfg : Config) (sch : Schema) (bytes extra : List Byte) (m : Fields),
    readSchema cfg sch bytes = .ok m → readSchema cfg sch (bytes ++ extra) = .ok m) ∧
  (∀ (cfg : Config) (bytes : List Byte), readSchema cfg [] bytes = .ok .nil) ∧
  (∀ (s : State) (before : Schema) (p : ParameterSpec) (m : Fields) (bytes tail : List Byte),
    ((before ++ [p]).map (·.name)).Nodup → readSchema s.config before bytes = .ok m →
    (∀ k < bytes.length, readSchema s.config before (bytes.take k) ≠ .ok m) →
    (∀ o, p.typeTag < 32 → threaded before p m o →
      (∀ v q, readReturns s p o (bytes ++ tail) bytes.length (.ok (.read v q)) →
        ∃ r, readSchema s.config (before ++ [p]) (bytes ++ tail) = .ok r ∧ r.get? p.name = some v ∧
          ∀ k, k ≠ p.name → r.get? k = m.get? k) ∧
      (∀ x after, readReturns s p o (bytes ++ tail) bytes.length (.err x) →
        readSchema s.config (before ++ p :: after) (bytes ++ tail) = .error x)) ∧
    (∀ n after, p.derivesLengthFrom = some n → n ∉ before.map (·.name) →
      readSchema s.config (before ++ p :: after) (bytes ++ tail) = .error (.schemaError (.badReference p.name))))

/-- R205, R206: a payload of integers, addresses and identifiers that a schema encodes, decodes to the same values field by field, and to no
other field. -/
def Obligations.PlainSchemaRoundTrip : Prop :=
  ∀ (cfg : Config) (sch : Schema) (m : Fields) (bytes : List Byte), (sch.map (·.name)).Nodup → plainPayload sch m →
    writeSchema cfg sch m = .ok bytes →
    ∃ m', readSchema cfg sch bytes = .ok m' ∧ (∀ p ∈ sch, m'.get? p.name = m.get? p.name) ∧
      (∀ k, k ∉ sch.map (·.name) → m'.get? k = none)

/-! ## Request Engine -/

/-- R241 to R244, R247: a request that finds the gate free is issued in the same step: handle, waiter, frame, gate and context; an SREQ waits
for its SRSP, a reset command for `resetInd`. -/
def Obligations.RequestIsIssued : Prop :=
  ∀ (u : Nat) (n : String) (p : Fields) (e : List Int) (o : CommandObject) (bytes : List Byte) (s : State),
    Operands.request u p e = true → built s u n p o bytes → s.gate = .free → s.config.waiterCap ≠ some s.waiters.length →
    (o.commandType = .sreq →
      exec (.request u n p e) s =
        .next (issued s.nextRid .srsp o.subsystem o.name (sreqTimeout s o)
          ⟨.idle, o, bytes, .sreqPath, e, none, some (sreqTimeout s o)⟩ { gives (.rid s.nextRid) s with nextRid := s.nextRid + 1 })) ∧
    (o.commandType = .areq → isReset o →
      exec (.request u n p e) s =
        .next (issued s.nextRid .areq 1 "resetInd" s.config.tReset
          ⟨.idle, o, bytes, .resetPath, e, none, some s.config.tReset⟩ { gives (.rid s.nextRid) s with nextRid := s.nextRid + 1 }))

/-- R245: a plain AREQ is emitted and completed in the step that requests it, and leaves nothing behind. -/
def Obligations.PlainAreqCompletesAtOnce : Prop :=
  ∀ (u : Nat) (n : String) (p : Fields) (e : List Int) (o : CommandObject) (bytes : List Byte) (s : State),
    Operands.request u p e = true → built s u n p o bytes → s.gate = .free → s.handlesDrawn → o.commandType = .areq → ¬isReset o →
    exec (.request u n p e) s =
      .next { gives (.rid s.nextRid) s with
        nextRid := s.nextRid + 1
        tx := s.tx ++ [bytes]
        done := s.done ++ [⟨.req s.nextRid, .okNone⟩] }

/-- R241, R242: a request that finds the gate held is held for it, whatever its path, and emits nothing. -/
def Obligations.RequestWaitsForGate : Prop :=
  ∀ (u : Nat) (n : String) (p : Fields) (e : List Int) (o : CommandObject) (bytes : List Byte) (s : State) (h : Nat),
    Operands.request u p e = true → built s u n p o bytes → s.gate = .held h → (o.commandType = .sreq ∨ o.commandType = .areq) →
    ∃ k t, exec (.request u n p e) s =
        .next { gives (.rid s.nextRid) s with
          nextRid := s.nextRid + 1
          gateQueue := NSet.insert s.nextRid s.gateQueue
          reqs := FMap.set s.nextRid ⟨.waitGate, o, bytes, k, e, none, t⟩ s.reqs } ∧
      (o.commandType = .sreq → k = .sreqPath ∧ t = some (sreqTimeout s o)) ∧
      (o.commandType = .areq → isReset o → k = .resetPath ∧ t = some s.config.tReset) ∧
      (o.commandType = .areq → ¬isReset o → k = .areqPath)

/-- R241, R246: a request that cannot be built makes no handle and writes nothing; POLL and SRSP are refused after the object and its frame. -/
def Obligations.RequestRefusedAtOnce : Prop :=
  ∀ (u : Nat) (n : String) (p : Fields) (e : List Int) (s : State), Operands.request u p e = true →
    (∀ x, fromCommand s.cmdTable u n p = .error x → exec (.request u n p e) s = .next (fails x s)) ∧
    (∀ o x, fromCommand s.cmdTable u n p = .ok o → toFrame s.config o = .error x → exec (.request u n p e) s = .next (fails x s)) ∧
    (∀ o bytes, built s u n p o bytes → (o.commandType = .poll ∨ o.commandType = .srsp) →
      exec (.request u n p e) s = .next (fails (.invalidCommandType o.commandType) s))

/-- R243: a request that finds no room for its waiter completes at once with that error, emits nothing and leaves the gate free. -/
def Obligations.RequestWithoutRoomFails : Prop :=
  ∀ (u : Nat) (n : String) (p : Fields) (e : List Int) (o : CommandObject) (bytes : List Byte) (s : State),
    Operands.request u p e = true → built s u n p o bytes → s.gate = .free → s.handlesDrawn →
    s.config.waiterCap = some s.waiters.length → (o.commandType = .sreq ∨ (o.commandType = .areq ∧ isReset o)) →
    exec (.request u n p e) s =
      .next { gives (.rid s.nextRid) s with
        nextRid := s.nextRid + 1
        done := s.done ++ [⟨.req s.nextRid, .err .waiterTableFull⟩] }

/-- R252, R265: CREATE_RESPONSE_WAITER appends one waiter with a pending slot and returns its handle, or finds the pending set full. -/
def Obligations.ResponseWaiterIsRegistered : Prop :=
  ∀ (t : CmdType) (u : Nat) (n : String) (m : Fields) (timeout : Option Nat) (s : State), u < 32 → m.wf = true →
    (s.config.waiterCap ≠ some s.waiters.length →
      exec (.createResponseWaiter (typeBits t).toNat u n m timeout) s =
        .next { gives (.wid s.nextWid) s with
          nextWid := s.nextWid + 1
          waiters := s.waiters ++ [⟨s.nextWid, t, BitVec.ofNat 5 u, n, m, s.now + timeout.getD s.config.tDefault, .caller⟩]
          slots := FMap.set s.nextWid ⟨.pending, false⟩ s.slots }) ∧
    (s.config.waiterCap = some s.waiters.length →
      exec (.createResponseWaiter (typeBits t).toNat u n m timeout) s = .next (fails .waiterTableFull s)) ∧
    (∀ c, 3 < c → exec (.createResponseWaiter c u n m timeout) s = .next (fails (.illegalOperation 0x81) s))

/-- R254: AWAIT holds on a caller's pending waiter, returns and consumes a settled one, and refuses every other handle. -/
def Obligations.AwaitHoldsOrReturns : Prop :=
  ∀ (w : Nat) (s : State),
    (FMap.get? w s.slots = some ⟨.pending, false⟩ → (∀ x ∈ s.waiters, x.wid = w → x.owner = .caller) →
      exec (.await w) s = .next { returns (.hold w) s with slots := FMap.set w ⟨.pending, true⟩ s.slots }) ∧
    (∀ r out, FMap.get? w s.slots = some ⟨r, false⟩ → (∀ x ∈ s.waiters, x.wid ≠ w) →
      ((∃ o, r = .fulfilled o ∧ out = .ok (.object o)) ∨ (∃ u n, r = .timedOut u n ∧ out = .err (.requestTimeout u n)) ∨
        (r = .cancelled ∧ out = .err .cancelled) ∨ (r = .failed ∧ out = .err .disconnected)) →
      exec (.await w) s = .next { returns out s with slots := FMap.erase w s.slots }) ∧
    (FMap.get? w s.slots = none ∨ (∃ x ∈ s.waiters, x.wid = w ∧ x.owner ≠ .caller) ∨ (FMap.get? w s.slots).any (·.awaited) = true →
      exec (.await w) s = .next (fails (.badHandle w) s))

/-- R255: CANCEL_REQUEST takes a held request out of the queue, or an issued one's own waiter out of the pending set, and completes it; on any other
handle it does nothing. -/
def Obligations.CancelRequestCompletesIt : Prop :=
  ∀ (rid : Nat) (s : State),
    (FMap.get? rid s.reqs = none → exec (.cancelRequest rid) s = .next (gives .none s)) ∧
    (∀ c, FMap.get? rid s.reqs = some c → c.phase = .waitGate → c.wid = none → s.gate ≠ .held rid →
      exec (.cancelRequest rid) s =
        .next { gives .none s with
          gateQueue := s.gateQueue.filter (fun q => q ≠ rid)
          done := s.done ++ [⟨.req rid, .err .cancelled⟩]
          reqs := FMap.erase rid s.reqs }) ∧
    (∀ c w, FMap.get? rid s.reqs = some c → c.phase = .awaitingReply → c.wid = some w → s.gate = .held rid →
      exec (.cancelRequest rid) s =
        .next { gives .none s with
          waiters := s.waiters.filter (fun x => x.wid ≠ w)
          slots := FMap.erase w s.slots
          gate := .free
          done := s.done ++ [⟨.req rid, .err .cancelled⟩]
          reqs := FMap.erase rid s.reqs })

/-- R256: CANCEL_WAITER settles a caller's pending waiter, and completes the AWAIT that is held on it; other handles it leaves alone or refuses. -/
def Obligations.CancelWaiterSettlesIt : Prop :=
  ∀ (s : State), s.canonical →
    (∀ x ∈ s.waiters, x.owner = .caller → FMap.get? x.wid s.slots = some ⟨.pending, false⟩ →
      exec (.cancelWaiter x.wid) s =
        .next { gives .none s with
          waiters := s.waiters.filter (fun y => y.wid ≠ x.wid)
          slots := FMap.set x.wid ⟨.cancelled, false⟩ s.slots }) ∧
    (∀ x ∈ s.waiters, x.owner = .caller → FMap.get? x.wid s.slots = some ⟨.pending, true⟩ →
      exec (.cancelWaiter x.wid) s =
        .next { gives .none s with
          waiters := s.waiters.filter (fun y => y.wid ≠ x.wid)
          slots := FMap.erase x.wid s.slots
          done := s.done ++ [⟨.waiter x.wid, .err .cancelled⟩] }) ∧
    (∀ x ∈ s.waiters, x.owner ≠ .caller → exec (.cancelWaiter x.wid) s = .next (fails (.badHandle x.wid) s)) ∧
    (∀ w, (∀ x ∈ s.waiters, x.wid ≠ w) → exec (.cancelWaiter w) s = .next (gives .none s))

/-- R250, R254, R261: TICK advances the time and expires exactly the waiters that are due, oldest first: their requests and held AWAITs complete with
RequestTimeout, other slots become `TimedOut`, and everything else stays. The key a timeout carries is the model's choice (notes/assumptions 13
and 14). -/
def Obligations.TickExpiresDueWaiters : Prop :=
  ∀ (dt : Nat) (s : State), s.Inv →
    ∃ t, exec (.tick dt) s = .next t ∧
      t = { gives .none s with
        now := s.now + dt
        waiters := s.waiters.filter (fun x => s.now + dt < x.deadline)
        done := s.done ++ (s.waiters.filter (fun x => x.deadline ≤ s.now + dt)).filterMap (expiryCompletion s)
        gate := if s.waiters.any (fun x => x.deadline ≤ s.now + dt && x.owner != .caller) then .free else s.gate
        slots := t.slots
        reqs := t.reqs } ∧
      (∀ w, FMap.get? w t.slots =
        match s.waiters.find? (fun x => x.wid == w && decide (x.deadline ≤ s.now + dt)) with
        | none => FMap.get? w s.slots
        | some x =>
          if x.owner = .caller ∧ (FMap.get? w s.slots).any (·.awaited) = false then some ⟨.timedOut x.subsystem x.name, false⟩ else none) ∧
      (∀ rid, FMap.get? rid t.reqs =
        if s.waiters.any (fun x => x.deadline ≤ s.now + dt && x.owner == .req rid) then none else FMap.get? rid s.reqs)

/-- R263: DISCONNECT reports the event, and nothing else in the reference behaviour; with FAIL_ON_DISCONNECT every waiter fails, oldest first, and then
every held request in some order, and no request is left. The waiters before the held requests is the model's reading, and the order among
the held ones is free (notes/assumptions/12). -/
def Obligations.DisconnectReportsAndFails : Prop :=
  (∀ s : State, s.config.failOnDisconnect = false →
    exec .disconnect s = .next { gives .none s with evt := s.evt ++ [.disconnected] }) ∧
  (∀ s : State, s.config.failOnDisconnect = true → s.Inv →
    ∃ t order, exec .disconnect s = .next t ∧ order.Perm (s.gateQueue.map (fun rid => ⟨.req rid, .err .disconnected⟩)) ∧
      t = { gives .none s with
        evt := s.evt ++ [.disconnected]
        waiters := []
        gateQueue := []
        gate := .free
        reqs := []
        done := s.done ++ s.waiters.filterMap (failureCompletion s) ++ order
        slots := t.slots
        choice := t.choice } ∧
      (∀ w, FMap.get? w t.slots =
        match s.waiters.find? (fun x => x.wid == w) with
        | none => FMap.get? w s.slots
        | some x => if x.owner = .caller ∧ (FMap.get? w s.slots).any (·.awaited) = false then some ⟨.failed, false⟩ else none))

/-- R257, R259: a frame fulfils the oldest waiter it matches, and no other: a caller's result is kept for its AWAIT, or completes the one held. -/
def Obligations.FrameFulfilsCallersWaiter : Prop :=
  ∀ (s : State) (f : Frame) (o : CommandObject) (older newer : List Waiter) (x : Waiter), s.canonical → firstMatch s f o older x newer →
    x.owner = .caller →
    (FMap.get? x.wid s.slots = some ⟨.pending, false⟩ →
      exec (.frameReceived f) s = .next { s with waiters := older ++ newer, slots := FMap.set x.wid ⟨.fulfilled o, false⟩ s.slots }) ∧
    (FMap.get? x.wid s.slots = some ⟨.pending, true⟩ →
      exec (.frameReceived f) s =
        .next { s with
          waiters := older ++ newer
          slots := FMap.erase x.wid s.slots
          done := s.done ++ [⟨.waiter x.wid, .ok o⟩] })

/-- R248, R249, R251, R259: a frame that matches a request's waiter completes the request in that step: an SREQ by its status, a reset command whatever
arrives; its waiter, slot and context go and the gate is free. -/
def Obligations.FrameCompletesRequest : Prop :=
  ∀ (s : State) (f : Frame) (o : CommandObject) (older newer : List Waiter) (x : Waiter) (rid : Nat) (c : ReqCtx), s.canonical →
    firstMatch s f o older x newer → x.owner = .req rid → FMap.get? rid s.reqs = some c → c.wid = some x.wid → s.gate = .held rid →
    c.kind ≠ .areqPath →
    exec (.frameReceived f) s =
      .next { s with
        waiters := older ++ newer
        slots := FMap.erase x.wid s.slots
        gate := .free
        reqs := FMap.erase rid s.reqs
        done := s.done ++ [⟨.req rid, if c.kind = .resetPath then .ok o else responseOutcome c.expectedStatus o⟩] }

/-- R257, R260, R267: a frame that matches no waiter is forwarded if its name has a handler, and is else dropped without an effect; one that does not
decode is reported with its header fields, and has no other effect. -/
def Obligations.UnmatchedOrUndecodableFrame : Prop :=
  ∀ (s : State) (f : Frame), f.valid = true →
    (∀ o, fromFrame s.cmdTable s.config f = .ok o → (∀ x ∈ s.waiters, waiterMatches o x = false) → o.name ∈ s.handlers →
      exec (.frameReceived f) s = .next { s with evt := s.evt ++ [.unsolicited o] }) ∧
    (∀ o, fromFrame s.cmdTable s.config f = .ok o → (∀ x ∈ s.waiters, waiterMatches o x = false) → o.name ∉ s.handlers →
      exec (.frameReceived f) s = .next s) ∧
    (∀ e, fromFrame s.cmdTable s.config f = .error e →
      exec (.frameReceived f) s =
        .next { s with evt := s.evt ++ [.rxError e.code (.frame f.subsystem f.commandId f.commandType)] }) ∧
    (3 < f.commandType.toNat →
      exec (.frameReceived f) s =
        .next { s with evt := s.evt ++ [.rxError .reservedCommandType (.frame f.subsystem f.commandId f.commandType)] })

/-- R258: a waiter matches on type, subsystem, name and every key of its matcher, network-address tags ignored; the wire id takes no part. Values of
unlike kinds differ, lists match element by element and records field by field; that the tag is ignored inside them too is the model's reading
(notes/assumptions/24). -/
def Obligations.MatchComparesKeyAndMatcher : Prop :=
  (∀ (x : Waiter) (o : CommandObject), x.matcher.wf = true →
    (waiterMatches o x = true ↔
      x.ctype = o.commandType ∧ x.subsystem = o.subsystem ∧ x.name = o.name ∧
        ∀ k v, x.matcher.get? k = some v → ∃ v', o.payload.get? k = some v' ∧ v.eqv v' = true)) ∧
  (∀ (a b : BitVec 16) (n m : Int) (x y : List Byte) (t u : Eui),
    ((Value.nwk a).eqv (.nwk b) = true ↔ a = b) ∧ ((Value.int n).eqv (.int m) = true ↔ n = m) ∧
    ((Value.nwk a).eqv (.int n) = true ↔ n = a.toNat) ∧ ((Value.int n).eqv (.nwk a) = true ↔ n = a.toNat) ∧
    ((Value.bytes x).eqv (.bytes y) = true ↔ x = y) ∧ ((Value.eui t).eqv (.eui u) = true ↔ t = u)) ∧
  (∀ v w : Value, kindNumber v ≠ kindNumber w → v.eqv w = false) ∧
  (∀ vs ws : Values, (Value.list vs).eqv (.list ws) = true ↔ List.Forall₂ (fun v w => v.eqv w = true) vs.toList ws.toList) ∧
  (∀ m n : Fields, m.wf = true → n.wf = true →
    ((Value.record m).eqv (.record n) = true ↔ ∀ k, sameField (m.get? k) (n.get? k)))

/-- R262, R243 to R245: GATE_GRANT admits one held request, the oldest where the order is `oldest`, and issues it in the same step; where it is not
enabled nothing happens (notes/assumptions 8, 9 and 11). A request that finds no room for its waiter completes with that error instead, and
a plain AREQ needs no room. -/
def Obligations.GateGrantIssuesHeldRequest : Prop :=
  (∀ s : State, s.gate ≠ .free ∨ s.gateQueue = [] → exec .gateGrant s = .next s) ∧
  (∀ s : State, s.gate = .free → s.gateQueue ≠ [] → s.Inv →
    ∃ rid c n, rid ∈ s.gateQueue ∧ FMap.get? rid s.reqs = some c ∧
      (s.config.gateOrder = .oldest → n = s.choice ∧ ∀ q ∈ s.gateQueue, rid ≤ q) ∧
      exec .gateGrant s =
        .next (if c.kind ≠ .areqPath ∧ s.config.waiterCap = some s.waiters.length then
          { s with
            gateQueue := s.gateQueue.filter (fun q => q ≠ rid)
            choice := n
            done := s.done ++ [⟨.req rid, .err .waiterTableFull⟩]
            reqs := FMap.erase rid s.reqs }
        else match c.kind with
          | .sreqPath =>
            issued rid .srsp c.obj.subsystem c.obj.name (c.timeout.getD 0) c
              { s with gateQueue := s.gateQueue.filter (fun q => q ≠ rid), choice := n }
          | .resetPath =>
            issued rid .areq 1 "resetInd" (c.timeout.getD 0) c
              { s with gateQueue := s.gateQueue.filter (fun q => q ≠ rid), choice := n }
          | .areqPath =>
            { s with
              gateQueue := s.gateQueue.filter (fun q => q ≠ rid)
              choice := n
              tx := s.tx ++ [c.bytes]
              done := s.done ++ [⟨.req rid, .okNone⟩]
              reqs := FMap.erase rid s.reqs }))

/-! ## The whole machine -/

/-- R340: reset leaves every part of the state at the value the spec gives, whatever the three construction arguments, and State.reset is such a
state. -/
def Obligations.ResetStateIsEmpty : Prop :=
  (∀ (tbl : List CommandSpec) (h : List String) (cfg : Config),
    let s := State.construct tbl h cfg
    s.rxbuf = [] ∧ s.waiters = [] ∧ s.slots = [] ∧ s.nextWid = 0 ∧ s.nextRid = 0 ∧ s.now = 0 ∧ s.gate = .free ∧ s.gateQueue = [] ∧
      s.reqs = [] ∧ s.config = cfg ∧ s.cmdTable = tbl ∧ s.handlers = h ∧ s.tx = [] ∧ s.evt = [] ∧ s.done = []) ∧
  ∃ tbl h cfg, State.reset = State.construct tbl h cfg

/-- The invariants of Sys2Proof/Safety.lean hold of the machine right after reset, and its Command Table is as R39 and R200 ask. -/
def Obligations.InvariantsHoldAtReset : Prop :=
  State.reset.Inv ∧ State.reset.framesWhole ∧ State.reset.completedOnce ∧ State.reset.withinCapacity ∧ State.reset.tableProper

/-- R21 to R28, R240, R242, R251, R254: every step keeps the invariant of the Request Engine's state. -/
def Obligations.StepKeepsInvariant : Prop := ∀ s t : State, s.Inv → step s = .next t → t.Inv

/-- R36, R70, R76: every step keeps that whatever stands on TX, or is still to be emitted, is one whole encoded frame. -/
def Obligations.StepKeepsFramesWhole : Prop := ∀ s t : State, s.framesWhole → step s = .next t → t.framesWhole

/-- R240: every step keeps that each request made has exactly one completion once it is gone, and none while it lives. -/
def Obligations.RequestsCompleteExactlyOnce : Prop := ∀ s t : State, s.completedOnce → step s = .next t → t.completedOnce

/-- R20, R21, R114, R265: every step keeps the capacities. -/
def Obligations.StepKeepsCapacities : Prop := ∀ s t : State, s.withinCapacity → step s = .next t → t.withinCapacity

/-- R264: a waiter that has left the pending set never returns, and one that stays is unchanged: what is pending after a step was pending before it,
or was registered by it under a new handle. -/
def Obligations.SettledWaitersNeverReturn : Prop :=
  ∀ s t : State, step s = .next t → (∀ x ∈ t.waiters, x ∈ s.waiters ∨ x.wid = s.nextWid) ∧
    s.nextWid ≤ t.nextWid ∧ t.nextWid ≤ s.nextWid + 1 ∧ s.nextRid ≤ t.nextRid ∧ t.nextRid ≤ s.nextRid + 1

/-- R30 to R32, R36, R50, R62, R306: whatever an agent presents, in whatever state, there is a next state (the model's reading: notes/assumptions/31); it
has the same construction parameters, takes nothing back from an output stream, and emits at most one frame. And R80, R303: an operation whose
operands are out of range ends with IllegalOperation and writes nothing (what is out of range: notes/assumptions 15, 16 and 22). -/
def Obligations.StepGoesOnAndKeepsConstruction : Prop :=
  (∀ (i : Instr) (who : Agent) (op : Byte) (r : List Operand) (s : State), encode i = .op who op r → i.wf = false →
    exec i s = .next (fails (.illegalOperation op) s)) ∧
  ∀ s : State, ∃ t, step s = .next t ∧
    t.config = s.config ∧ t.cmdTable = s.cmdTable ∧ t.handlers = s.handlers ∧ (t.tx = s.tx ∨ ∃ f, t.tx = s.tx ++ [f]) ∧
    s.evt <+: t.evt ∧ s.done <+: t.done ∧ s.ret <+: t.ret

/-- R20, R25: time moves by TICK only, and the accumulator by bytes from the transport only. -/
def Obligations.OnlyTickMovesTimeOnlyBytesMoveBuffer : Prop :=
  ∀ s t : State, step s = .next t →
    (t.now = s.now ∨ ∃ who dt rest, s.port = .op who 0x85 [.num dt] :: rest ∧ t.now = s.now + dt) ∧
    (t.rxbuf = s.rxbuf ∨ (∃ who chunk rest, s.port = .op who 0x01 [.bytes chunk] :: rest) ∨ ∃ bs rest, s.port = .wire bs :: rest)

/-- R40: an operation of the pure units writes no state, and its result depends on its operands, CONFIG and CMD_TABLE alone. -/
def Obligations.PureOperationsOnlyAnswer : Prop :=
  ∀ (i : Instr) (s s' : State), pureOperation i = true → s.config = s'.config → s.cmdTable = s'.cmdTable →
    ∃ r, exec i s = .next (returns r s) ∧ exec i s' = .next (returns r s')
end

