-- ==== Sys2Proof/Laws/Codec.lean ====
section
/-! SUPPORT. What the shared operations of the Parameter Codec and the schema walks can do, said once each (spec/00_scope.md R9, spec/42_command_object.md
R205, R206), and what the check of an object operand asks. -/

namespace Sys2Proof.Machine

open Sys2Proof

/-- R39: the check of a schema. -/
@[simp] theorem operands_schema_iff (sch : Schema) : Operands.schema sch = true ↔ (sch.map (·.name)).Nodup := decide_eq_true_iff

/-- R38, R39: the check of an object operand. -/
@[simp] theorem operands_object_iff (o : CommandObject) :
    Operands.object o = true ↔ o.payload.wf = true ∧ (o.schemaUsed.map (·.name)).Nodup := by
  rw [Operands.object, Bool.and_eq_true, operands_schema_iff]

/-- R9: a cursor read that succeeds gives the bytes at the cursor and moves it past them, inside the buffer. -/
theorem cursorRead_ok {buf bytes : List Byte} {pos n next : Nat} (h : cursorRead buf pos n = .ok (bytes, next)) :
    pos + n ≤ buf.length ∧ bytes = (buf.drop pos).take n ∧ next = pos + n := by
  unfold cursorRead at h
  split at h
  · cases h
  · cases h; exact ⟨by omega, rfl, rfl⟩

/-- R9: a cursor read that fails reports where and how much, and there were too few bytes. -/
theorem cursorRead_error {buf : List Byte} {pos n : Nat} {e : Err} (h : cursorRead buf pos n = .error e) :
    buf.length < pos + n ∧ e = .bufferUnderrun pos n := by
  unfold cursorRead at h
  split at h
  · cases h; exact ⟨‹_›, rfl⟩
  · cases h

/-- R206: a walk over two schemas is the second's onto what the first wrote. -/
theorem writeWalk_append (cfg : Config) (payload : Fields) (a b : Schema) (w : List Byte) :
    writeWalk cfg payload (a ++ b) w =
      match writeWalk cfg payload a w with
      | .error e => .error e
      | .ok w' => writeWalk cfg payload b w' := by
  induction a generalizing w with
  | nil => rfl
  | cons p a ih =>
    simp only [List.cons_append, writeWalk]
    split
    · rfl
    · split
      · rfl
      · exact ih _

/-- R205: what a read walk that succeeds has done with its first field. -/
theorem readWalk_cons_ok {cfg : Config} {bytes : List Byte} {p : ParameterSpec} {rest before : Schema} {pos : Nat} {result m : Fields}
    (h : readWalk cfg bytes (p :: rest) before pos result = .ok m) :
    ∃ j v next, lengthSource before p = .ok j ∧
      pread cfg p.typeTag (threadedOpts before result p j) bytes pos = .ok (v, next) ∧
      readWalk cfg bytes rest (before ++ [p]) next (result.set p.name v) = .ok m := by
  simp only [readWalk] at h
  split at h
  · cases h
  · next j hj =>
    split at h
    · cases h
    · next v next hv => exact ⟨j, v, next, hj, hv, h⟩

/-- R205: a read walk that fails does so at its first field or after it. -/
theorem readWalk_cons_error {cfg : Config} {bytes : List Byte} {p : ParameterSpec} {rest before : Schema} {pos : Nat} {result : Fields}
    {e : Err} (h : readWalk cfg bytes (p :: rest) before pos result = .error e) :
    lengthSource before p = .error e ∨
    (∃ j, lengthSource before p = .ok j ∧ pread cfg p.typeTag (threadedOpts before result p j) bytes pos = .error e) ∨
    (∃ j v next, lengthSource before p = .ok j ∧
      pread cfg p.typeTag (threadedOpts before result p j) bytes pos = .ok (v, next) ∧
      readWalk cfg bytes rest (before ++ [p]) next (result.set p.name v) = .error e) := by
  simp only [readWalk] at h
  split at h
  · next x hx => cases h; exact .inl hx
  · next j hj =>
    split at h
    · next x hx => cases h; exact .inr (.inl ⟨j, hj, hx⟩)
    · next v next hv => exact .inr (.inr ⟨j, v, next, hj, hv, h⟩)

end Sys2Proof.Machine
end

