-- ==== Sys2Proof/Laws/Maps.lean ====
section
/-! SUPPORT. The laws of the finite maps and sets: a read after a write, what a write leaves alone, and that every operation keeps the one
canonical form. -/

namespace Sys2Proof.Machine

open Sys2Proof

/-! ## Sets of numbers -/

/-- The canonical form says that the numbers rise strictly. -/
theorem NSet.wf_iff_pairwise (l : List Nat) : NSet.wf l = true ↔ l.Pairwise (· < ·) := by
  induction l with
  | nil => simp [NSet.wf]
  | cons a l ih =>
    cases l with
    | nil => simp [NSet.wf]
    | cons b l =>
      simp only [NSet.wf, Bool.and_eq_true, decide_eq_true_eq, ih, List.pairwise_cons (a := a)]
      constructor
      · rintro ⟨hab, h⟩
        refine ⟨fun x hx => ?_, h⟩
        rcases List.mem_cons.1 hx with rfl | hx
        · exact hab
        · exact lt_trans hab ((List.pairwise_cons.1 h).1 x hx)
      · rintro ⟨ha, h⟩
        exact ⟨ha b (by simp), h⟩

@[simp] theorem NSet.mem_insert (k a : Nat) (l : List Nat) : a ∈ NSet.insert k l ↔ a = k ∨ a ∈ l := by
  induction l with
  | nil => simp [NSet.insert]
  | cons b l ih =>
    unfold NSet.insert
    split
    · simp
    · split
      · subst_vars; simp
      · simp [ih]; tauto

@[simp] theorem NSet.mem_erase (k a : Nat) (l : List Nat) : a ∈ NSet.erase k l ↔ a ∈ l ∧ a ≠ k := by
  simp [NSet.erase]

theorem NSet.wf_erase (k : Nat) (l : List Nat) (h : NSet.wf l = true) : NSet.wf (NSet.erase k l) = true := by
  rw [NSet.wf_iff_pairwise] at *
  exact h.filter _

theorem NSet.wf_insert (k : Nat) (l : List Nat) (h : NSet.wf l = true) : NSet.wf (NSet.insert k l) = true := by
  rw [NSet.wf_iff_pairwise] at *
  induction l with
  | nil => simp [NSet.insert]
  | cons a l ih =>
    obtain ⟨ha, hl⟩ := List.pairwise_cons.1 h
    unfold NSet.insert
    split
    next hk => exact List.pairwise_cons.2 ⟨fun x hx => by
      rcases List.mem_cons.1 hx with rfl | hx
      · exact hk
      · exact lt_trans hk (ha x hx), h⟩
    next hk =>
      split
      · exact h
      next hne =>
        refine List.pairwise_cons.2 ⟨fun x hx => ?_, ih hl⟩
        rcases (NSet.mem_insert k x l).1 hx with rfl | hx
        · omega
        · exact ha x hx

/-! ## Maps from handles -/

variable {α : Type}

@[simp] theorem FMap.keys_nil : FMap.keys ([] : List (Nat × α)) = [] := rfl

@[simp] theorem FMap.keys_cons (e : Nat × α) (m : List (Nat × α)) : FMap.keys (e :: m) = e.1 :: FMap.keys m := rfl

/-- A key that is written is inserted among the keys. -/
@[simp] theorem FMap.keys_set (k : Nat) (v : α) (m : List (Nat × α)) :
    FMap.keys (FMap.set k v m) = NSet.insert k (FMap.keys m) := by
  induction m with
  | nil => rfl
  | cons e m ih =>
    simp only [FMap.set, FMap.keys_cons, NSet.insert]
    split
    · rfl
    · split
      · subst_vars; rfl
      · rw [FMap.keys_cons, ih]

/-- A key that is deleted leaves the keys. -/
@[simp] theorem FMap.keys_erase (k : Nat) (m : List (Nat × α)) :
    FMap.keys (FMap.erase k m) = NSet.erase k (FMap.keys m) := by
  simp only [FMap.keys, FMap.erase, NSet.erase, List.filter_map]
  rfl

theorem FMap.wf_set (k : Nat) (v : α) (m : List (Nat × α)) (h : FMap.wf m = true) : FMap.wf (FMap.set k v m) = true := by
  simpa [FMap.wf] using NSet.wf_insert k _ h

theorem FMap.wf_erase (k : Nat) (m : List (Nat × α)) (h : FMap.wf m = true) : FMap.wf (FMap.erase k m) = true := by
  simpa [FMap.wf] using NSet.wf_erase k _ h

@[simp] theorem FMap.get?_set_self (k : Nat) (v : α) (m : List (Nat × α)) : FMap.get? k (FMap.set k v m) = some v := by
  induction m with
  | nil => simp [FMap.set, FMap.get?]
  | cons e m ih =>
    unfold FMap.set
    split
    · simp [FMap.get?]
    · split
      · simp [FMap.get?]
      · simp_all [FMap.get?]

@[simp] theorem FMap.get?_set_of_ne {k k' : Nat} (hk : k' ≠ k) (v : α) (m : List (Nat × α)) :
    FMap.get? k' (FMap.set k v m) = FMap.get? k' m := by
  induction m with
  | nil => simp [FMap.set, FMap.get?, hk]
  | cons e m ih =>
    unfold FMap.set
    split
    · simp [FMap.get?, hk]
    · split
      · subst_vars; simp [FMap.get?, hk]
      · simp [FMap.get?, ih]

@[simp] theorem FMap.get?_erase_self (k : Nat) (m : List (Nat × α)) : FMap.get? k (FMap.erase k m) = none := by
  induction m with
  | nil => rfl
  | cons e m ih =>
    simp only [FMap.erase, List.filter_cons] at *
    by_cases h : e.1 = k
    · simp [h, ih]
    · simp [h, FMap.get?, ih, Ne.symm h]

@[simp] theorem FMap.get?_erase_of_ne {k k' : Nat} (hk : k' ≠ k) (m : List (Nat × α)) :
    FMap.get? k' (FMap.erase k m) = FMap.get? k' m := by
  induction m with
  | nil => rfl
  | cons e m ih =>
    simp only [FMap.erase, List.filter_cons] at *
    by_cases h : e.1 = k
    · simp [h, ih, FMap.get?, hk]
    · simp [h, FMap.get?, ih]

/-- A deletion undoes a write of the same key. -/
@[simp] theorem FMap.erase_set_self (k : Nat) (v : α) (m : List (Nat × α)) :
    FMap.erase k (FMap.set k v m) = FMap.erase k m := by
  induction m with
  | nil => simp [FMap.set, FMap.erase]
  | cons e m ih =>
    obtain ⟨k', v'⟩ := e
    unfold FMap.set
    split
    · simp [FMap.erase]
    · split
      · subst_vars; simp [FMap.erase]
      · simp only [FMap.erase, List.filter_cons] at *
        rw [ih]

/-- The later of two writes to a key stays. -/
@[simp] theorem FMap.set_set_self (k : Nat) (v u : α) (m : List (Nat × α)) :
    FMap.set k v (FMap.set k u m) = FMap.set k v m := by
  induction m with
  | nil => simp [FMap.set]
  | cons e m ih =>
    obtain ⟨k', v'⟩ := e
    by_cases h1 : k < k'
    · simp [FMap.set, h1]
    · by_cases h2 : k = k' <;> simp [FMap.set, h1, h2, ih]

/-- A key has a value exactly when it is among the keys. -/
theorem FMap.get?_eq_none_iff (k : Nat) (m : List (Nat × α)) : FMap.get? k m = none ↔ k ∉ FMap.keys m := by
  induction m with
  | nil => simp [FMap.get?]
  | cons e m ih => by_cases h : k = e.1 <;> simp [FMap.get?, h, ih]

/-- A value that is found stands in the map. -/
theorem FMap.mem_of_get? {k : Nat} {v : α} {m : List (Nat × α)} (h : FMap.get? k m = some v) : (k, v) ∈ m := by
  induction m with
  | nil => simp [FMap.get?] at h
  | cons e m ih =>
    obtain ⟨k', v'⟩ := e
    simp only [FMap.get?] at h
    split at h
    · simp_all
    · exact List.mem_cons_of_mem _ (ih h)

/-- In a canonical map every entry is found under its key. -/
theorem FMap.get?_of_mem {k : Nat} {v : α} {m : List (Nat × α)} (hm : FMap.wf m = true) (h : (k, v) ∈ m) :
    FMap.get? k m = some v := by
  rw [FMap.wf, NSet.wf_iff_pairwise] at hm
  induction m with
  | nil => simp at h
  | cons e m ih =>
    obtain ⟨hlt, hm⟩ := List.pairwise_cons.1 hm
    rcases List.mem_cons.1 h with rfl | h
    · simp [FMap.get?]
    · have : e.1 < k := hlt k (List.mem_map.2 ⟨(k, v), h, rfl⟩)
      simp [FMap.get?, show k ≠ e.1 by omega, ih hm h]

/-- The entries of a map after a write to a canonical map. -/
theorem FMap.mem_set {k : Nat} {v : α} {m : List (Nat × α)} (hm : FMap.wf m = true) (e : Nat × α) :
    e ∈ FMap.set k v m ↔ e = (k, v) ∨ (e ∈ m ∧ e.1 ≠ k) := by
  have hs := FMap.wf_set k v m hm
  obtain ⟨i, u⟩ := e
  by_cases hi : i = k
  · subst hi
    constructor
    · intro h
      have := FMap.get?_of_mem hs h
      simp_all
    · rintro (h | ⟨_, h⟩)
      · simp only [Prod.mk.injEq, true_and] at h
        subst h
        exact FMap.mem_of_get? (FMap.get?_set_self i u m)
      · exact absurd rfl h
  · constructor
    · intro h
      have := FMap.get?_of_mem hs h
      rw [FMap.get?_set_of_ne hi] at this
      exact Or.inr ⟨FMap.mem_of_get? this, hi⟩
    · rintro (h | ⟨h, _⟩)
      · exact absurd (congrArg Prod.fst h) hi
      · exact FMap.mem_of_get? (by rw [FMap.get?_set_of_ne hi]; exact FMap.get?_of_mem hm h)

/-- The entries of a map after a deletion. -/
theorem FMap.mem_erase (k : Nat) (m : List (Nat × α)) (e : Nat × α) : e ∈ FMap.erase k m ↔ e ∈ m ∧ e.1 ≠ k := by
  simp [FMap.erase]

end Sys2Proof.Machine

namespace Sys2Proof

/-! ## Field maps -/

@[simp] theorem Fields.get?_set_self (k : String) (v : Value) (m : Fields) : (m.set k v).get? k = some v := by
  match m with
  | .nil => simp [Fields.set, Fields.get?]
  | .cons k' v' m =>
    unfold Fields.set
    split
    · simp [Fields.get?]
    · split
      · simp [Fields.get?]
      · rename_i _ hk
        simp [Fields.get?, hk, Fields.get?_set_self k v m]

@[simp] theorem Fields.get?_set_of_ne {k k' : String} (hk : k' ≠ k) (v : Value) (m : Fields) :
    (m.set k v).get? k' = m.get? k' := by
  match m with
  | .nil => simp [Fields.set, Fields.get?, hk]
  | .cons j u m =>
    unfold Fields.set
    split
    · simp [Fields.get?, hk]
    · split
      · subst_vars; simp [Fields.get?, hk]
      · simp [Fields.get?, Fields.get?_set_of_ne hk v m]

theorem Fields.keyAbove_set {j k : String} (hj : j < k) (v : Value) (m : Fields) (h : m.keyAbove j = true) :
    (m.set k v).keyAbove j = true := by
  cases m with
  | nil => simpa [Fields.set, Fields.keyAbove] using hj
  | cons k' v' m =>
    unfold Fields.set
    split
    · simpa [Fields.keyAbove] using hj
    · split
      · simpa [Fields.keyAbove] using hj
      · simpa [Fields.keyAbove] using h

/-- A write keeps the canonical form. -/
theorem Fields.wf_set (k : String) (v : Value) (m : Fields) (hv : v.wf = true) (hm : m.wf = true) :
    (m.set k v).wf = true := by
  match m with
  | .nil => simp [Fields.set, Fields.wf, Fields.keyAbove, hv]
  | .cons k' v' m =>
    simp only [Fields.wf, Bool.and_eq_true] at hm
    obtain ⟨⟨hv', ha⟩, hm'⟩ := hm
    unfold Fields.set
    split
    next hlt =>
      simp only [Fields.wf, Bool.and_eq_true]
      exact ⟨⟨hv, by simpa [Fields.keyAbove] using hlt⟩, ⟨hv', ha⟩, hm'⟩
    next hnlt =>
      split
      next heq => subst heq; simp [Fields.wf, hv, ha, hm']
      next hne =>
        have hk : k' < k := lt_of_le_of_ne (not_lt.1 hnlt) (Ne.symm hne)
        simp [Fields.wf, hv', Fields.keyAbove_set hk v m ha, Fields.wf_set k v m hv hm']

end Sys2Proof
end

