-- ==== Sys2Proof/Laws/State.lean ====
section
/-! SUPPORT. One lemma per field for each update of the state, so that no proof unfolds a record update. -/

namespace Sys2Proof.Machine

open Sys2Proof

/-! ## `emitTx` -/

@[simp] theorem emitTx_rxbuf (f : List Byte) (s : State) : (emitTx f s).rxbuf = s.rxbuf := rfl
@[simp] theorem emitTx_waiters (f : List Byte) (s : State) : (emitTx f s).waiters = s.waiters := rfl
@[simp] theorem emitTx_slots (f : List Byte) (s : State) : (emitTx f s).slots = s.slots := rfl
@[simp] theorem emitTx_nextWid (f : List Byte) (s : State) : (emitTx f s).nextWid = s.nextWid := rfl
@[simp] theorem emitTx_nextRid (f : List Byte) (s : State) : (emitTx f s).nextRid = s.nextRid := rfl
@[simp] theorem emitTx_now (f : List Byte) (s : State) : (emitTx f s).now = s.now := rfl
@[simp] theorem emitTx_gate (f : List Byte) (s : State) : (emitTx f s).gate = s.gate := rfl
@[simp] theorem emitTx_gateQueue (f : List Byte) (s : State) : (emitTx f s).gateQueue = s.gateQueue := rfl
@[simp] theorem emitTx_reqs (f : List Byte) (s : State) : (emitTx f s).reqs = s.reqs := rfl
@[simp] theorem emitTx_config (f : List Byte) (s : State) : (emitTx f s).config = s.config := rfl
@[simp] theorem emitTx_cmdTable (f : List Byte) (s : State) : (emitTx f s).cmdTable = s.cmdTable := rfl
@[simp] theorem emitTx_handlers (f : List Byte) (s : State) : (emitTx f s).handlers = s.handlers := rfl
@[simp] theorem emitTx_tx (f : List Byte) (s : State) : (emitTx f s).tx = s.tx ++ [f] := rfl
@[simp] theorem emitTx_evt (f : List Byte) (s : State) : (emitTx f s).evt = s.evt := rfl
@[simp] theorem emitTx_done (f : List Byte) (s : State) : (emitTx f s).done = s.done := rfl
@[simp] theorem emitTx_ret (f : List Byte) (s : State) : (emitTx f s).ret = s.ret := rfl
@[simp] theorem emitTx_port (f : List Byte) (s : State) : (emitTx f s).port = s.port := rfl
@[simp] theorem emitTx_choice (f : List Byte) (s : State) : (emitTx f s).choice = s.choice := rfl

/-! ## `emitEvt` -/

@[simp] theorem emitEvt_rxbuf (e : Event) (s : State) : (emitEvt e s).rxbuf = s.rxbuf := rfl
@[simp] theorem emitEvt_waiters (e : Event) (s : State) : (emitEvt e s).waiters = s.waiters := rfl
@[simp] theorem emitEvt_slots (e : Event) (s : State) : (emitEvt e s).slots = s.slots := rfl
@[simp] theorem emitEvt_nextWid (e : Event) (s : State) : (emitEvt e s).nextWid = s.nextWid := rfl
@[simp] theorem emitEvt_nextRid (e : Event) (s : State) : (emitEvt e s).nextRid = s.nextRid := rfl
@[simp] theorem emitEvt_now (e : Event) (s : State) : (emitEvt e s).now = s.now := rfl
@[simp] theorem emitEvt_gate (e : Event) (s : State) : (emitEvt e s).gate = s.gate := rfl
@[simp] theorem emitEvt_gateQueue (e : Event) (s : State) : (emitEvt e s).gateQueue = s.gateQueue := rfl
@[simp] theorem emitEvt_reqs (e : Event) (s : State) : (emitEvt e s).reqs = s.reqs := rfl
@[simp] theorem emitEvt_config (e : Event) (s : State) : (emitEvt e s).config = s.config := rfl
@[simp] theorem emitEvt_cmdTable (e : Event) (s : State) : (emitEvt e s).cmdTable = s.cmdTable := rfl
@[simp] theorem emitEvt_handlers (e : Event) (s : State) : (emitEvt e s).handlers = s.handlers := rfl
@[simp] theorem emitEvt_tx (e : Event) (s : State) : (emitEvt e s).tx = s.tx := rfl
@[simp] theorem emitEvt_evt (e : Event) (s : State) : (emitEvt e s).evt = s.evt ++ [e] := rfl
@[simp] theorem emitEvt_done (e : Event) (s : State) : (emitEvt e s).done = s.done := rfl
@[simp] theorem emitEvt_ret (e : Event) (s : State) : (emitEvt e s).ret = s.ret := rfl
@[simp] theorem emitEvt_port (e : Event) (s : State) : (emitEvt e s).port = s.port := rfl
@[simp] theorem emitEvt_choice (e : Event) (s : State) : (emitEvt e s).choice = s.choice := rfl

/-! ## `emitDone` -/

@[simp] theorem emitDone_rxbuf (h : Handle) (o : DoneOutcome) (s : State) : (emitDone h o s).rxbuf = s.rxbuf := rfl
@[simp] theorem emitDone_waiters (h : Handle) (o : DoneOutcome) (s : State) : (emitDone h o s).waiters = s.waiters := rfl
@[simp] theorem emitDone_slots (h : Handle) (o : DoneOutcome) (s : State) : (emitDone h o s).slots = s.slots := rfl
@[simp] theorem emitDone_nextWid (h : Handle) (o : DoneOutcome) (s : State) : (emitDone h o s).nextWid = s.nextWid := rfl
@[simp] theorem emitDone_nextRid (h : Handle) (o : DoneOutcome) (s : State) : (emitDone h o s).nextRid = s.nextRid := rfl
@[simp] theorem emitDone_now (h : Handle) (o : DoneOutcome) (s : State) : (emitDone h o s).now = s.now := rfl
@[simp] theorem emitDone_gate (h : Handle) (o : DoneOutcome) (s : State) : (emitDone h o s).gate = s.gate := rfl
@[simp] theorem emitDone_gateQueue (h : Handle) (o : DoneOutcome) (s : State) : (emitDone h o s).gateQueue = s.gateQueue := rfl
@[simp] theorem emitDone_reqs (h : Handle) (o : DoneOutcome) (s : State) : (emitDone h o s).reqs = s.reqs := rfl
@[simp] theorem emitDone_config (h : Handle) (o : DoneOutcome) (s : State) : (emitDone h o s).config = s.config := rfl
@[simp] theorem emitDone_cmdTable (h : Handle) (o : DoneOutcome) (s : State) : (emitDone h o s).cmdTable = s.cmdTable := rfl
@[simp] theorem emitDone_handlers (h : Handle) (o : DoneOutcome) (s : State) : (emitDone h o s).handlers = s.handlers := rfl
@[simp] theorem emitDone_tx (h : Handle) (o : DoneOutcome) (s : State) : (emitDone h o s).tx = s.tx := rfl
@[simp] theorem emitDone_evt (h : Handle) (o : DoneOutcome) (s : State) : (emitDone h o s).evt = s.evt := rfl
@[simp] theorem emitDone_done (h : Handle) (o : DoneOutcome) (s : State) : (emitDone h o s).done = s.done ++ [⟨h, o⟩] := rfl
@[simp] theorem emitDone_ret (h : Handle) (o : DoneOutcome) (s : State) : (emitDone h o s).ret = s.ret := rfl
@[simp] theorem emitDone_port (h : Handle) (o : DoneOutcome) (s : State) : (emitDone h o s).port = s.port := rfl
@[simp] theorem emitDone_choice (h : Handle) (o : DoneOutcome) (s : State) : (emitDone h o s).choice = s.choice := rfl

/-! ## `respond` -/

@[simp] theorem respond_rxbuf (r : Response) (s : State) : (respond r s).rxbuf = s.rxbuf := rfl
@[simp] theorem respond_waiters (r : Response) (s : State) : (respond r s).waiters = s.waiters := rfl
@[simp] theorem respond_slots (r : Response) (s : State) : (respond r s).slots = s.slots := rfl
@[simp] theorem respond_nextWid (r : Response) (s : State) : (respond r s).nextWid = s.nextWid := rfl
@[simp] theorem respond_nextRid (r : Response) (s : State) : (respond r s).nextRid = s.nextRid := rfl
@[simp] theorem respond_now (r : Response) (s : State) : (respond r s).now = s.now := rfl
@[simp] theorem respond_gate (r : Response) (s : State) : (respond r s).gate = s.gate := rfl
@[simp] theorem respond_gateQueue (r : Response) (s : State) : (respond r s).gateQueue = s.gateQueue := rfl
@[simp] theorem respond_reqs (r : Response) (s : State) : (respond r s).reqs = s.reqs := rfl
@[simp] theorem respond_config (r : Response) (s : State) : (respond r s).config = s.config := rfl
@[simp] theorem respond_cmdTable (r : Response) (s : State) : (respond r s).cmdTable = s.cmdTable := rfl
@[simp] theorem respond_handlers (r : Response) (s : State) : (respond r s).handlers = s.handlers := rfl
@[simp] theorem respond_tx (r : Response) (s : State) : (respond r s).tx = s.tx := rfl
@[simp] theorem respond_evt (r : Response) (s : State) : (respond r s).evt = s.evt := rfl
@[simp] theorem respond_done (r : Response) (s : State) : (respond r s).done = s.done := rfl
@[simp] theorem respond_ret (r : Response) (s : State) : (respond r s).ret = s.ret ++ [r] := rfl
@[simp] theorem respond_port (r : Response) (s : State) : (respond r s).port = s.port := rfl
@[simp] theorem respond_choice (r : Response) (s : State) : (respond r s).choice = s.choice := rfl

/-! ## `raise` -/

@[simp] theorem raise_rxbuf (e : Err) (s : State) : (raise e s).rxbuf = s.rxbuf := rfl
@[simp] theorem raise_waiters (e : Err) (s : State) : (raise e s).waiters = s.waiters := rfl
@[simp] theorem raise_slots (e : Err) (s : State) : (raise e s).slots = s.slots := rfl
@[simp] theorem raise_nextWid (e : Err) (s : State) : (raise e s).nextWid = s.nextWid := rfl
@[simp] theorem raise_nextRid (e : Err) (s : State) : (raise e s).nextRid = s.nextRid := rfl
@[simp] theorem raise_now (e : Err) (s : State) : (raise e s).now = s.now := rfl
@[simp] theorem raise_gate (e : Err) (s : State) : (raise e s).gate = s.gate := rfl
@[simp] theorem raise_gateQueue (e : Err) (s : State) : (raise e s).gateQueue = s.gateQueue := rfl
@[simp] theorem raise_reqs (e : Err) (s : State) : (raise e s).reqs = s.reqs := rfl
@[simp] theorem raise_config (e : Err) (s : State) : (raise e s).config = s.config := rfl
@[simp] theorem raise_cmdTable (e : Err) (s : State) : (raise e s).cmdTable = s.cmdTable := rfl
@[simp] theorem raise_handlers (e : Err) (s : State) : (raise e s).handlers = s.handlers := rfl
@[simp] theorem raise_tx (e : Err) (s : State) : (raise e s).tx = s.tx := rfl
@[simp] theorem raise_evt (e : Err) (s : State) : (raise e s).evt = s.evt := rfl
@[simp] theorem raise_done (e : Err) (s : State) : (raise e s).done = s.done := rfl
@[simp] theorem raise_ret (e : Err) (s : State) : (raise e s).ret = s.ret ++ [.err e] := rfl
@[simp] theorem raise_port (e : Err) (s : State) : (raise e s).port = s.port := rfl
@[simp] theorem raise_choice (e : Err) (s : State) : (raise e s).choice = s.choice := rfl

/-! ## `setSlot` -/

@[simp] theorem setSlot_rxbuf (w : Nat) (l : Slot) (s : State) : (setSlot w l s).rxbuf = s.rxbuf := rfl
@[simp] theorem setSlot_waiters (w : Nat) (l : Slot) (s : State) : (setSlot w l s).waiters = s.waiters := rfl
@[simp] theorem setSlot_slots (w : Nat) (l : Slot) (s : State) : (setSlot w l s).slots = FMap.set w l s.slots := rfl
@[simp] theorem setSlot_nextWid (w : Nat) (l : Slot) (s : State) : (setSlot w l s).nextWid = s.nextWid := rfl
@[simp] theorem setSlot_nextRid (w : Nat) (l : Slot) (s : State) : (setSlot w l s).nextRid = s.nextRid := rfl
@[simp] theorem setSlot_now (w : Nat) (l : Slot) (s : State) : (setSlot w l s).now = s.now := rfl
@[simp] theorem setSlot_gate (w : Nat) (l : Slot) (s : State) : (setSlot w l s).gate = s.gate := rfl
@[simp] theorem setSlot_gateQueue (w : Nat) (l : Slot) (s : State) : (setSlot w l s).gateQueue = s.gateQueue := rfl
@[simp] theorem setSlot_reqs (w : Nat) (l : Slot) (s : State) : (setSlot w l s).reqs = s.reqs := rfl
@[simp] theorem setSlot_config (w : Nat) (l : Slot) (s : State) : (setSlot w l s).config = s.config := rfl
@[simp] theorem setSlot_cmdTable (w : Nat) (l : Slot) (s : State) : (setSlot w l s).cmdTable = s.cmdTable := rfl
@[simp] theorem setSlot_handlers (w : Nat) (l : Slot) (s : State) : (setSlot w l s).handlers = s.handlers := rfl
@[simp] theorem setSlot_tx (w : Nat) (l : Slot) (s : State) : (setSlot w l s).tx = s.tx := rfl
@[simp] theorem setSlot_evt (w : Nat) (l : Slot) (s : State) : (setSlot w l s).evt = s.evt := rfl
@[simp] theorem setSlot_done (w : Nat) (l : Slot) (s : State) : (setSlot w l s).done = s.done := rfl
@[simp] theorem setSlot_ret (w : Nat) (l : Slot) (s : State) : (setSlot w l s).ret = s.ret := rfl
@[simp] theorem setSlot_port (w : Nat) (l : Slot) (s : State) : (setSlot w l s).port = s.port := rfl
@[simp] theorem setSlot_choice (w : Nat) (l : Slot) (s : State) : (setSlot w l s).choice = s.choice := rfl

/-! ## `deleteSlot` -/

@[simp] theorem deleteSlot_rxbuf (w : Nat) (s : State) : (deleteSlot w s).rxbuf = s.rxbuf := rfl
@[simp] theorem deleteSlot_waiters (w : Nat) (s : State) : (deleteSlot w s).waiters = s.waiters := rfl
@[simp] theorem deleteSlot_slots (w : Nat) (s : State) : (deleteSlot w s).slots = FMap.erase w s.slots := rfl
@[simp] theorem deleteSlot_nextWid (w : Nat) (s : State) : (deleteSlot w s).nextWid = s.nextWid := rfl
@[simp] theorem deleteSlot_nextRid (w : Nat) (s : State) : (deleteSlot w s).nextRid = s.nextRid := rfl
@[simp] theorem deleteSlot_now (w : Nat) (s : State) : (deleteSlot w s).now = s.now := rfl
@[simp] theorem deleteSlot_gate (w : Nat) (s : State) : (deleteSlot w s).gate = s.gate := rfl
@[simp] theorem deleteSlot_gateQueue (w : Nat) (s : State) : (deleteSlot w s).gateQueue = s.gateQueue := rfl
@[simp] theorem deleteSlot_reqs (w : Nat) (s : State) : (deleteSlot w s).reqs = s.reqs := rfl
@[simp] theorem deleteSlot_config (w : Nat) (s : State) : (deleteSlot w s).config = s.config := rfl
@[simp] theorem deleteSlot_cmdTable (w : Nat) (s : State) : (deleteSlot w s).cmdTable = s.cmdTable := rfl
@[simp] theorem deleteSlot_handlers (w : Nat) (s : State) : (deleteSlot w s).handlers = s.handlers := rfl
@[simp] theorem deleteSlot_tx (w : Nat) (s : State) : (deleteSlot w s).tx = s.tx := rfl
@[simp] theorem deleteSlot_evt (w : Nat) (s : State) : (deleteSlot w s).evt = s.evt := rfl
@[simp] theorem deleteSlot_done (w : Nat) (s : State) : (deleteSlot w s).done = s.done := rfl
@[simp] theorem deleteSlot_ret (w : Nat) (s : State) : (deleteSlot w s).ret = s.ret := rfl
@[simp] theorem deleteSlot_port (w : Nat) (s : State) : (deleteSlot w s).port = s.port := rfl
@[simp] theorem deleteSlot_choice (w : Nat) (s : State) : (deleteSlot w s).choice = s.choice := rfl

/-! ## `removeWaiter` -/

@[simp] theorem removeWaiter_rxbuf (w : Nat) (s : State) : (removeWaiter w s).rxbuf = s.rxbuf := rfl
@[simp] theorem removeWaiter_waiters (w : Nat) (s : State) : (removeWaiter w s).waiters = s.waiters.filter (fun x => x.wid != w) := rfl
@[simp] theorem removeWaiter_slots (w : Nat) (s : State) : (removeWaiter w s).slots = s.slots := rfl
@[simp] theorem removeWaiter_nextWid (w : Nat) (s : State) : (removeWaiter w s).nextWid = s.nextWid := rfl
@[simp] theorem removeWaiter_nextRid (w : Nat) (s : State) : (removeWaiter w s).nextRid = s.nextRid := rfl
@[simp] theorem removeWaiter_now (w : Nat) (s : State) : (removeWaiter w s).now = s.now := rfl
@[simp] theorem removeWaiter_gate (w : Nat) (s : State) : (removeWaiter w s).gate = s.gate := rfl
@[simp] theorem removeWaiter_gateQueue (w : Nat) (s : State) : (removeWaiter w s).gateQueue = s.gateQueue := rfl
@[simp] theorem removeWaiter_reqs (w : Nat) (s : State) : (removeWaiter w s).reqs = s.reqs := rfl
@[simp] theorem removeWaiter_config (w : Nat) (s : State) : (removeWaiter w s).config = s.config := rfl
@[simp] theorem removeWaiter_cmdTable (w : Nat) (s : State) : (removeWaiter w s).cmdTable = s.cmdTable := rfl
@[simp] theorem removeWaiter_handlers (w : Nat) (s : State) : (removeWaiter w s).handlers = s.handlers := rfl
@[simp] theorem removeWaiter_tx (w : Nat) (s : State) : (removeWaiter w s).tx = s.tx := rfl
@[simp] theorem removeWaiter_evt (w : Nat) (s : State) : (removeWaiter w s).evt = s.evt := rfl
@[simp] theorem removeWaiter_done (w : Nat) (s : State) : (removeWaiter w s).done = s.done := rfl
@[simp] theorem removeWaiter_ret (w : Nat) (s : State) : (removeWaiter w s).ret = s.ret := rfl
@[simp] theorem removeWaiter_port (w : Nat) (s : State) : (removeWaiter w s).port = s.port := rfl
@[simp] theorem removeWaiter_choice (w : Nat) (s : State) : (removeWaiter w s).choice = s.choice := rfl

/-! ## `setReq` -/

@[simp] theorem setReq_rxbuf (r : Nat) (c : ReqCtx) (s : State) : (setReq r c s).rxbuf = s.rxbuf := rfl
@[simp] theorem setReq_waiters (r : Nat) (c : ReqCtx) (s : State) : (setReq r c s).waiters = s.waiters := rfl
@[simp] theorem setReq_slots (r : Nat) (c : ReqCtx) (s : State) : (setReq r c s).slots = s.slots := rfl
@[simp] theorem setReq_nextWid (r : Nat) (c : ReqCtx) (s : State) : (setReq r c s).nextWid = s.nextWid := rfl
@[simp] theorem setReq_nextRid (r : Nat) (c : ReqCtx) (s : State) : (setReq r c s).nextRid = s.nextRid := rfl
@[simp] theorem setReq_now (r : Nat) (c : ReqCtx) (s : State) : (setReq r c s).now = s.now := rfl
@[simp] theorem setReq_gate (r : Nat) (c : ReqCtx) (s : State) : (setReq r c s).gate = s.gate := rfl
@[simp] theorem setReq_gateQueue (r : Nat) (c : ReqCtx) (s : State) : (setReq r c s).gateQueue = s.gateQueue := rfl
@[simp] theorem setReq_reqs (r : Nat) (c : ReqCtx) (s : State) : (setReq r c s).reqs = FMap.set r c s.reqs := rfl
@[simp] theorem setReq_config (r : Nat) (c : ReqCtx) (s : State) : (setReq r c s).config = s.config := rfl
@[simp] theorem setReq_cmdTable (r : Nat) (c : ReqCtx) (s : State) : (setReq r c s).cmdTable = s.cmdTable := rfl
@[simp] theorem setReq_handlers (r : Nat) (c : ReqCtx) (s : State) : (setReq r c s).handlers = s.handlers := rfl
@[simp] theorem setReq_tx (r : Nat) (c : ReqCtx) (s : State) : (setReq r c s).tx = s.tx := rfl
@[simp] theorem setReq_evt (r : Nat) (c : ReqCtx) (s : State) : (setReq r c s).evt = s.evt := rfl
@[simp] theorem setReq_done (r : Nat) (c : ReqCtx) (s : State) : (setReq r c s).done = s.done := rfl
@[simp] theorem setReq_ret (r : Nat) (c : ReqCtx) (s : State) : (setReq r c s).ret = s.ret := rfl
@[simp] theorem setReq_port (r : Nat) (c : ReqCtx) (s : State) : (setReq r c s).port = s.port := rfl
@[simp] theorem setReq_choice (r : Nat) (c : ReqCtx) (s : State) : (setReq r c s).choice = s.choice := rfl

/-! ## `deleteReq` -/

@[simp] theorem deleteReq_rxbuf (r : Nat) (s : State) : (deleteReq r s).rxbuf = s.rxbuf := rfl
@[simp] theorem deleteReq_waiters (r : Nat) (s : State) : (deleteReq r s).waiters = s.waiters := rfl
@[simp] theorem deleteReq_slots (r : Nat) (s : State) : (deleteReq r s).slots = s.slots := rfl
@[simp] theorem deleteReq_nextWid (r : Nat) (s : State) : (deleteReq r s).nextWid = s.nextWid := rfl
@[simp] theorem deleteReq_nextRid (r : Nat) (s : State) : (deleteReq r s).nextRid = s.nextRid := rfl
@[simp] theorem deleteReq_now (r : Nat) (s : State) : (deleteReq r s).now = s.now := rfl
@[simp] theorem deleteReq_gate (r : Nat) (s : State) : (deleteReq r s).gate = s.gate := rfl
@[simp] theorem deleteReq_gateQueue (r : Nat) (s : State) : (deleteReq r s).gateQueue = s.gateQueue := rfl
@[simp] theorem deleteReq_reqs (r : Nat) (s : State) : (deleteReq r s).reqs = FMap.erase r s.reqs := rfl
@[simp] theorem deleteReq_config (r : Nat) (s : State) : (deleteReq r s).config = s.config := rfl
@[simp] theorem deleteReq_cmdTable (r : Nat) (s : State) : (deleteReq r s).cmdTable = s.cmdTable := rfl
@[simp] theorem deleteReq_handlers (r : Nat) (s : State) : (deleteReq r s).handlers = s.handlers := rfl
@[simp] theorem deleteReq_tx (r : Nat) (s : State) : (deleteReq r s).tx = s.tx := rfl
@[simp] theorem deleteReq_evt (r : Nat) (s : State) : (deleteReq r s).evt = s.evt := rfl
@[simp] theorem deleteReq_done (r : Nat) (s : State) : (deleteReq r s).done = s.done := rfl
@[simp] theorem deleteReq_ret (r : Nat) (s : State) : (deleteReq r s).ret = s.ret := rfl
@[simp] theorem deleteReq_port (r : Nat) (s : State) : (deleteReq r s).port = s.port := rfl
@[simp] theorem deleteReq_choice (r : Nat) (s : State) : (deleteReq r s).choice = s.choice := rfl

/-! ## `unqueue` -/

@[simp] theorem unqueue_rxbuf (r : Nat) (s : State) : (unqueue r s).rxbuf = s.rxbuf := rfl
@[simp] theorem unqueue_waiters (r : Nat) (s : State) : (unqueue r s).waiters = s.waiters := rfl
@[simp] theorem unqueue_slots (r : Nat) (s : State) : (unqueue r s).slots = s.slots := rfl
@[simp] theorem unqueue_nextWid (r : Nat) (s : State) : (unqueue r s).nextWid = s.nextWid := rfl
@[simp] theorem unqueue_nextRid (r : Nat) (s : State) : (unqueue r s).nextRid = s.nextRid := rfl
@[simp] theorem unqueue_now (r : Nat) (s : State) : (unqueue r s).now = s.now := rfl
@[simp] theorem unqueue_gate (r : Nat) (s : State) : (unqueue r s).gate = s.gate := rfl
@[simp] theorem unqueue_gateQueue (r : Nat) (s : State) : (unqueue r s).gateQueue = NSet.erase r s.gateQueue := rfl
@[simp] theorem unqueue_reqs (r : Nat) (s : State) : (unqueue r s).reqs = s.reqs := rfl
@[simp] theorem unqueue_config (r : Nat) (s : State) : (unqueue r s).config = s.config := rfl
@[simp] theorem unqueue_cmdTable (r : Nat) (s : State) : (unqueue r s).cmdTable = s.cmdTable := rfl
@[simp] theorem unqueue_handlers (r : Nat) (s : State) : (unqueue r s).handlers = s.handlers := rfl
@[simp] theorem unqueue_tx (r : Nat) (s : State) : (unqueue r s).tx = s.tx := rfl
@[simp] theorem unqueue_evt (r : Nat) (s : State) : (unqueue r s).evt = s.evt := rfl
@[simp] theorem unqueue_done (r : Nat) (s : State) : (unqueue r s).done = s.done := rfl
@[simp] theorem unqueue_ret (r : Nat) (s : State) : (unqueue r s).ret = s.ret := rfl
@[simp] theorem unqueue_port (r : Nat) (s : State) : (unqueue r s).port = s.port := rfl
@[simp] theorem unqueue_choice (r : Nat) (s : State) : (unqueue r s).choice = s.choice := rfl

/-! ## `State.take` -/

@[simp] theorem State.take_rxbuf (l : List Input) (s : State) : (s.take l).rxbuf = s.rxbuf := rfl
@[simp] theorem State.take_waiters (l : List Input) (s : State) : (s.take l).waiters = s.waiters := rfl
@[simp] theorem State.take_slots (l : List Input) (s : State) : (s.take l).slots = s.slots := rfl
@[simp] theorem State.take_nextWid (l : List Input) (s : State) : (s.take l).nextWid = s.nextWid := rfl
@[simp] theorem State.take_nextRid (l : List Input) (s : State) : (s.take l).nextRid = s.nextRid := rfl
@[simp] theorem State.take_now (l : List Input) (s : State) : (s.take l).now = s.now := rfl
@[simp] theorem State.take_gate (l : List Input) (s : State) : (s.take l).gate = s.gate := rfl
@[simp] theorem State.take_gateQueue (l : List Input) (s : State) : (s.take l).gateQueue = s.gateQueue := rfl
@[simp] theorem State.take_reqs (l : List Input) (s : State) : (s.take l).reqs = s.reqs := rfl
@[simp] theorem State.take_config (l : List Input) (s : State) : (s.take l).config = s.config := rfl
@[simp] theorem State.take_cmdTable (l : List Input) (s : State) : (s.take l).cmdTable = s.cmdTable := rfl
@[simp] theorem State.take_handlers (l : List Input) (s : State) : (s.take l).handlers = s.handlers := rfl
@[simp] theorem State.take_tx (l : List Input) (s : State) : (s.take l).tx = s.tx := rfl
@[simp] theorem State.take_evt (l : List Input) (s : State) : (s.take l).evt = s.evt := rfl
@[simp] theorem State.take_done (l : List Input) (s : State) : (s.take l).done = s.done := rfl
@[simp] theorem State.take_ret (l : List Input) (s : State) : (s.take l).ret = s.ret := rfl
@[simp] theorem State.take_port (l : List Input) (s : State) : (s.take l).port = l := rfl
@[simp] theorem State.take_choice (l : List Input) (s : State) : (s.take l).choice = s.choice := rfl

/-! ## `setPhase` writes `REQS` only -/

@[simp] theorem setPhase_rxbuf (r : Nat) (p : Phase) (s : State) : (setPhase r p s).rxbuf = s.rxbuf := by
  unfold setPhase; split <;> rfl

@[simp] theorem setPhase_waiters (r : Nat) (p : Phase) (s : State) : (setPhase r p s).waiters = s.waiters := by
  unfold setPhase; split <;> rfl

@[simp] theorem setPhase_slots (r : Nat) (p : Phase) (s : State) : (setPhase r p s).slots = s.slots := by
  unfold setPhase; split <;> rfl

@[simp] theorem setPhase_nextWid (r : Nat) (p : Phase) (s : State) : (setPhase r p s).nextWid = s.nextWid := by
  unfold setPhase; split <;> rfl

@[simp] theorem setPhase_nextRid (r : Nat) (p : Phase) (s : State) : (setPhase r p s).nextRid = s.nextRid := by
  unfold setPhase; split <;> rfl

@[simp] theorem setPhase_now (r : Nat) (p : Phase) (s : State) : (setPhase r p s).now = s.now := by
  unfold setPhase; split <;> rfl

@[simp] theorem setPhase_gate (r : Nat) (p : Phase) (s : State) : (setPhase r p s).gate = s.gate := by
  unfold setPhase; split <;> rfl

@[simp] theorem setPhase_gateQueue (r : Nat) (p : Phase) (s : State) : (setPhase r p s).gateQueue = s.gateQueue := by
  unfold setPhase; split <;> rfl

@[simp] theorem setPhase_config (r : Nat) (p : Phase) (s : State) : (setPhase r p s).config = s.config := by
  unfold setPhase; split <;> rfl

@[simp] theorem setPhase_cmdTable (r : Nat) (p : Phase) (s : State) : (setPhase r p s).cmdTable = s.cmdTable := by
  unfold setPhase; split <;> rfl

@[simp] theorem setPhase_handlers (r : Nat) (p : Phase) (s : State) : (setPhase r p s).handlers = s.handlers := by
  unfold setPhase; split <;> rfl

@[simp] theorem setPhase_tx (r : Nat) (p : Phase) (s : State) : (setPhase r p s).tx = s.tx := by
  unfold setPhase; split <;> rfl

@[simp] theorem setPhase_evt (r : Nat) (p : Phase) (s : State) : (setPhase r p s).evt = s.evt := by
  unfold setPhase; split <;> rfl

@[simp] theorem setPhase_done (r : Nat) (p : Phase) (s : State) : (setPhase r p s).done = s.done := by
  unfold setPhase; split <;> rfl

@[simp] theorem setPhase_ret (r : Nat) (p : Phase) (s : State) : (setPhase r p s).ret = s.ret := by
  unfold setPhase; split <;> rfl

@[simp] theorem setPhase_port (r : Nat) (p : Phase) (s : State) : (setPhase r p s).port = s.port := by
  unfold setPhase; split <;> rfl

@[simp] theorem setPhase_choice (r : Nat) (p : Phase) (s : State) : (setPhase r p s).choice = s.choice := by
  unfold setPhase; split <;> rfl

/-! ## `releaseGate` writes `GATE` only -/

@[simp] theorem releaseGate_rxbuf (r : Nat) (s : State) : (releaseGate r s).rxbuf = s.rxbuf := by
  unfold releaseGate; split <;> rfl

@[simp] theorem releaseGate_waiters (r : Nat) (s : State) : (releaseGate r s).waiters = s.waiters := by
  unfold releaseGate; split <;> rfl

@[simp] theorem releaseGate_slots (r : Nat) (s : State) : (releaseGate r s).slots = s.slots := by
  unfold releaseGate; split <;> rfl

@[simp] theorem releaseGate_nextWid (r : Nat) (s : State) : (releaseGate r s).nextWid = s.nextWid := by
  unfold releaseGate; split <;> rfl

@[simp] theorem releaseGate_nextRid (r : Nat) (s : State) : (releaseGate r s).nextRid = s.nextRid := by
  unfold releaseGate; split <;> rfl

@[simp] theorem releaseGate_now (r : Nat) (s : State) : (releaseGate r s).now = s.now := by
  unfold releaseGate; split <;> rfl

@[simp] theorem releaseGate_gateQueue (r : Nat) (s : State) : (releaseGate r s).gateQueue = s.gateQueue := by
  unfold releaseGate; split <;> rfl

@[simp] theorem releaseGate_reqs (r : Nat) (s : State) : (releaseGate r s).reqs = s.reqs := by
  unfold releaseGate; split <;> rfl

@[simp] theorem releaseGate_config (r : Nat) (s : State) : (releaseGate r s).config = s.config := by
  unfold releaseGate; split <;> rfl

@[simp] theorem releaseGate_cmdTable (r : Nat) (s : State) : (releaseGate r s).cmdTable = s.cmdTable := by
  unfold releaseGate; split <;> rfl

@[simp] theorem releaseGate_handlers (r : Nat) (s : State) : (releaseGate r s).handlers = s.handlers := by
  unfold releaseGate; split <;> rfl

@[simp] theorem releaseGate_tx (r : Nat) (s : State) : (releaseGate r s).tx = s.tx := by
  unfold releaseGate; split <;> rfl

@[simp] theorem releaseGate_evt (r : Nat) (s : State) : (releaseGate r s).evt = s.evt := by
  unfold releaseGate; split <;> rfl

@[simp] theorem releaseGate_done (r : Nat) (s : State) : (releaseGate r s).done = s.done := by
  unfold releaseGate; split <;> rfl

@[simp] theorem releaseGate_ret (r : Nat) (s : State) : (releaseGate r s).ret = s.ret := by
  unfold releaseGate; split <;> rfl

@[simp] theorem releaseGate_port (r : Nat) (s : State) : (releaseGate r s).port = s.port := by
  unfold releaseGate; split <;> rfl

@[simp] theorem releaseGate_choice (r : Nat) (s : State) : (releaseGate r s).choice = s.choice := by
  unfold releaseGate; split <;> rfl

/-- R251: the gate after a release: free where the request held it. -/
@[simp] theorem releaseGate_gate (r : Nat) (s : State) :
    (releaseGate r s).gate = if s.gate = .held r then .free else s.gate := by
  unfold releaseGate; split <;> simp_all

end Sys2Proof.Machine
end

