-- ==== Sys2Proof/Laws/Ops.lean ====
section
/-! SUPPORT. For each shared operation, what it can do, said once; and the fields it leaves alone. -/

namespace Sys2Proof.Machine

open Sys2Proof

/-! ## Outcomes -/

@[simp] theorem answer_ok (v : OpResult) (s : State) : answer (.ok v) s = respond (.ok v) s := rfl

@[simp] theorem answer_error (e : Err) (s : State) : answer (.error e) s = respond (.err e) s := rfl

/-- An operation that only answers writes the returned outcome and nothing else. -/
theorem answer_cases (r : Except Err OpResult) (s : State) : ∃ x, answer r s = respond x s := by
  cases r <;> exact ⟨_, rfl⟩

@[simp] theorem checked_true (op : Byte) (f : State → State) (s : State) : checked op true f s = f s := rfl

@[simp] theorem checked_false (op : Byte) (f : State → State) (s : State) :
    checked op false f s = respond (.err (.illegalOperation op)) s := rfl

/-- Either the operands are in range and the operation runs, or it is refused and nothing else is written. -/
theorem checked_cases (op : Byte) (ok : Bool) (f : State → State) (s : State) :
    (ok = true ∧ checked op ok f s = f s) ∨
      (ok = false ∧ checked op ok f s = respond (.err (.illegalOperation op)) s) := by
  cases ok <;> simp

/-! ## Request contexts -/

theorem setPhase_of_none {rid : Nat} {s : State} (h : FMap.get? rid s.reqs = none) (p : Phase) : setPhase rid p s = s := by
  simp [setPhase, h]

theorem setPhase_of_some {rid : Nat} {c : ReqCtx} {s : State} (h : FMap.get? rid s.reqs = some c) (p : Phase) :
    setPhase rid p s = { s with reqs := FMap.set rid { c with phase := p } s.reqs } := by
  simp [setPhase, h, setReq]

/-! ## Registration (R265) -/

/-- A registration that succeeds found room, drew the next handle, and appended one waiter with a pending slot. -/
theorem register_ok {t : CmdType} {u : Subsystem} {n : String} {m : Fields} {d : Nat} {o : Owner} {s s' : State} {w : Nat}
    (h : register t u n m d o s = .ok (w, s')) :
    s.config.waiterCap ≠ some s.waiters.length ∧ w = s.nextWid ∧
      s' = { s with
        nextWid := s.nextWid + 1
        waiters := s.waiters ++ [⟨s.nextWid, t, u, n, m, s.now + d, o⟩]
        slots := FMap.set s.nextWid ⟨.pending, false⟩ s.slots } := by
  unfold register at h
  split at h
  · cases h
  · rename_i hc
    cases h
    exact ⟨hc, rfl, rfl⟩

/-- A registration fails only for want of room. -/
theorem register_error {t : CmdType} {u : Subsystem} {n : String} {m : Fields} {d : Nat} {o : Owner} {s : State} {e : Err}
    (h : register t u n m d o s = .error e) : s.config.waiterCap = some s.waiters.length ∧ e = .waiterTableFull := by
  unfold register at h
  split at h
  · rename_i hc
    cases h
    exact ⟨hc, rfl⟩
  · cases h

/-! ## Completions -/

theorem completeRequest_of_none {rid : Nat} {s : State} (h : FMap.get? rid s.reqs = none) (out : DoneOutcome) :
    completeRequest rid out s = s := by
  simp [completeRequest, h]

/-- A completion posts one item, deletes the slot and the context, and frees the gate where the request held it. -/
theorem completeRequest_of_some {rid : Nat} {c : ReqCtx} {s : State} (h : FMap.get? rid s.reqs = some c) (out : DoneOutcome) :
    completeRequest rid out s =
      { s with
        done := s.done ++ [⟨.req rid, out⟩]
        slots := (match c.wid with | some w => FMap.erase w s.slots | none => s.slots)
        gate := if s.gate = .held rid then .free else s.gate
        reqs := FMap.erase rid s.reqs } := by
  simp only [completeRequest, h, setPhase_of_some h]
  cases c.wid <;>
    (simp only [releaseGate, emitDone, deleteSlot, deleteReq]; split <;> simp_all)

@[simp] theorem completeRequest_rxbuf (r : Nat) (o : DoneOutcome) (s : State) : (completeRequest r o s).rxbuf = s.rxbuf := by
  cases h : FMap.get? r s.reqs <;> simp [completeRequest_of_none, completeRequest_of_some, h]

@[simp] theorem completeRequest_waiters (r : Nat) (o : DoneOutcome) (s : State) : (completeRequest r o s).waiters = s.waiters := by
  cases h : FMap.get? r s.reqs <;> simp [completeRequest_of_none, completeRequest_of_some, h]

@[simp] theorem completeRequest_nextWid (r : Nat) (o : DoneOutcome) (s : State) : (completeRequest r o s).nextWid = s.nextWid := by
  cases h : FMap.get? r s.reqs <;> simp [completeRequest_of_none, completeRequest_of_some, h]

@[simp] theorem completeRequest_nextRid (r : Nat) (o : DoneOutcome) (s : State) : (completeRequest r o s).nextRid = s.nextRid := by
  cases h : FMap.get? r s.reqs <;> simp [completeRequest_of_none, completeRequest_of_some, h]

@[simp] theorem completeRequest_now (r : Nat) (o : DoneOutcome) (s : State) : (completeRequest r o s).now = s.now := by
  cases h : FMap.get? r s.reqs <;> simp [completeRequest_of_none, completeRequest_of_some, h]

@[simp] theorem completeRequest_gateQueue (r : Nat) (o : DoneOutcome) (s : State) : (completeRequest r o s).gateQueue = s.gateQueue := by
  cases h : FMap.get? r s.reqs <;> simp [completeRequest_of_none, completeRequest_of_some, h]

@[simp] theorem completeRequest_config (r : Nat) (o : DoneOutcome) (s : State) : (completeRequest r o s).config = s.config := by
  cases h : FMap.get? r s.reqs <;> simp [completeRequest_of_none, completeRequest_of_some, h]

@[simp] theorem completeRequest_cmdTable (r : Nat) (o : DoneOutcome) (s : State) : (completeRequest r o s).cmdTable = s.cmdTable := by
  cases h : FMap.get? r s.reqs <;> simp [completeRequest_of_none, completeRequest_of_some, h]

@[simp] theorem completeRequest_handlers (r : Nat) (o : DoneOutcome) (s : State) : (completeRequest r o s).handlers = s.handlers := by
  cases h : FMap.get? r s.reqs <;> simp [completeRequest_of_none, completeRequest_of_some, h]

@[simp] theorem completeRequest_tx (r : Nat) (o : DoneOutcome) (s : State) : (completeRequest r o s).tx = s.tx := by
  cases h : FMap.get? r s.reqs <;> simp [completeRequest_of_none, completeRequest_of_some, h]

@[simp] theorem completeRequest_evt (r : Nat) (o : DoneOutcome) (s : State) : (completeRequest r o s).evt = s.evt := by
  cases h : FMap.get? r s.reqs <;> simp [completeRequest_of_none, completeRequest_of_some, h]

@[simp] theorem completeRequest_ret (r : Nat) (o : DoneOutcome) (s : State) : (completeRequest r o s).ret = s.ret := by
  cases h : FMap.get? r s.reqs <;> simp [completeRequest_of_none, completeRequest_of_some, h]

@[simp] theorem completeRequest_port (r : Nat) (o : DoneOutcome) (s : State) : (completeRequest r o s).port = s.port := by
  cases h : FMap.get? r s.reqs <;> simp [completeRequest_of_none, completeRequest_of_some, h]

@[simp] theorem completeRequest_choice (r : Nat) (o : DoneOutcome) (s : State) : (completeRequest r o s).choice = s.choice := by
  cases h : FMap.get? r s.reqs <;> simp [completeRequest_of_none, completeRequest_of_some, h]

/-- An AWAIT that is held on a settled waiter completes and consumes the slot; in every other case nothing happens. -/
theorem completeAwait_cases (w : Nat) (s : State) :
    completeAwait w s = s ∨
      ∃ sl out, FMap.get? w s.slots = some sl ∧ sl.awaited = true ∧ slotOutcome sl.result = some out ∧
        completeAwait w s = { s with done := s.done ++ [⟨.waiter w, out⟩], slots := FMap.erase w s.slots } := by
  unfold completeAwait
  split
  · exact .inl rfl
  · rename_i sl hsl
    split
    · rename_i ha
      split
      · rename_i out ho
        exact .inr ⟨sl, out, hsl, ha, ho, rfl⟩
      · exact .inl rfl
    · exact .inl rfl

@[simp] theorem completeAwait_rxbuf (w : Nat) (s : State) : (completeAwait w s).rxbuf = s.rxbuf := by
  rcases completeAwait_cases w s with h | ⟨_, _, _, _, _, h⟩ <;> rw [h]

@[simp] theorem completeAwait_waiters (w : Nat) (s : State) : (completeAwait w s).waiters = s.waiters := by
  rcases completeAwait_cases w s with h | ⟨_, _, _, _, _, h⟩ <;> rw [h]

@[simp] theorem completeAwait_nextWid (w : Nat) (s : State) : (completeAwait w s).nextWid = s.nextWid := by
  rcases completeAwait_cases w s with h | ⟨_, _, _, _, _, h⟩ <;> rw [h]

@[simp] theorem completeAwait_nextRid (w : Nat) (s : State) : (completeAwait w s).nextRid = s.nextRid := by
  rcases completeAwait_cases w s with h | ⟨_, _, _, _, _, h⟩ <;> rw [h]

@[simp] theorem completeAwait_now (w : Nat) (s : State) : (completeAwait w s).now = s.now := by
  rcases completeAwait_cases w s with h | ⟨_, _, _, _, _, h⟩ <;> rw [h]

@[simp] theorem completeAwait_gate (w : Nat) (s : State) : (completeAwait w s).gate = s.gate := by
  rcases completeAwait_cases w s with h | ⟨_, _, _, _, _, h⟩ <;> rw [h]

@[simp] theorem completeAwait_gateQueue (w : Nat) (s : State) : (completeAwait w s).gateQueue = s.gateQueue := by
  rcases completeAwait_cases w s with h | ⟨_, _, _, _, _, h⟩ <;> rw [h]

@[simp] theorem completeAwait_reqs (w : Nat) (s : State) : (completeAwait w s).reqs = s.reqs := by
  rcases completeAwait_cases w s with h | ⟨_, _, _, _, _, h⟩ <;> rw [h]

@[simp] theorem completeAwait_config (w : Nat) (s : State) : (completeAwait w s).config = s.config := by
  rcases completeAwait_cases w s with h | ⟨_, _, _, _, _, h⟩ <;> rw [h]

@[simp] theorem completeAwait_cmdTable (w : Nat) (s : State) : (completeAwait w s).cmdTable = s.cmdTable := by
  rcases completeAwait_cases w s with h | ⟨_, _, _, _, _, h⟩ <;> rw [h]

@[simp] theorem completeAwait_handlers (w : Nat) (s : State) : (completeAwait w s).handlers = s.handlers := by
  rcases completeAwait_cases w s with h | ⟨_, _, _, _, _, h⟩ <;> rw [h]

@[simp] theorem completeAwait_tx (w : Nat) (s : State) : (completeAwait w s).tx = s.tx := by
  rcases completeAwait_cases w s with h | ⟨_, _, _, _, _, h⟩ <;> rw [h]

@[simp] theorem completeAwait_evt (w : Nat) (s : State) : (completeAwait w s).evt = s.evt := by
  rcases completeAwait_cases w s with h | ⟨_, _, _, _, _, h⟩ <;> rw [h]

@[simp] theorem completeAwait_ret (w : Nat) (s : State) : (completeAwait w s).ret = s.ret := by
  rcases completeAwait_cases w s with h | ⟨_, _, _, _, _, h⟩ <;> rw [h]

@[simp] theorem completeAwait_port (w : Nat) (s : State) : (completeAwait w s).port = s.port := by
  rcases completeAwait_cases w s with h | ⟨_, _, _, _, _, h⟩ <;> rw [h]

@[simp] theorem completeAwait_choice (w : Nat) (s : State) : (completeAwait w s).choice = s.choice := by
  rcases completeAwait_cases w s with h | ⟨_, _, _, _, _, h⟩ <;> rw [h]

/-- A result is written into the waiter's slot. -/
theorem latch_slots (w : Nat) (r : SlotResult) (s : State) :
    ∃ a, (latch w r s).slots = FMap.set w ⟨r, a⟩ s.slots := by
  unfold latch
  split
  · rename_i sl _; exact ⟨sl.awaited, rfl⟩
  · exact ⟨false, rfl⟩

@[simp] theorem latch_rxbuf (w : Nat) (r : SlotResult) (s : State) : (latch w r s).rxbuf = s.rxbuf := by
  unfold latch; split <;> rfl

@[simp] theorem latch_waiters (w : Nat) (r : SlotResult) (s : State) : (latch w r s).waiters = s.waiters := by
  unfold latch; split <;> rfl

@[simp] theorem latch_nextWid (w : Nat) (r : SlotResult) (s : State) : (latch w r s).nextWid = s.nextWid := by
  unfold latch; split <;> rfl

@[simp] theorem latch_nextRid (w : Nat) (r : SlotResult) (s : State) : (latch w r s).nextRid = s.nextRid := by
  unfold latch; split <;> rfl

@[simp] theorem latch_now (w : Nat) (r : SlotResult) (s : State) : (latch w r s).now = s.now := by
  unfold latch; split <;> rfl

@[simp] theorem latch_gate (w : Nat) (r : SlotResult) (s : State) : (latch w r s).gate = s.gate := by
  unfold latch; split <;> rfl

@[simp] theorem latch_gateQueue (w : Nat) (r : SlotResult) (s : State) : (latch w r s).gateQueue = s.gateQueue := by
  unfold latch; split <;> rfl

@[simp] theorem latch_reqs (w : Nat) (r : SlotResult) (s : State) : (latch w r s).reqs = s.reqs := by
  unfold latch; split <;> rfl

@[simp] theorem latch_config (w : Nat) (r : SlotResult) (s : State) : (latch w r s).config = s.config := by
  unfold latch; split <;> rfl

@[simp] theorem latch_cmdTable (w : Nat) (r : SlotResult) (s : State) : (latch w r s).cmdTable = s.cmdTable := by
  unfold latch; split <;> rfl

@[simp] theorem latch_handlers (w : Nat) (r : SlotResult) (s : State) : (latch w r s).handlers = s.handlers := by
  unfold latch; split <;> rfl

@[simp] theorem latch_tx (w : Nat) (r : SlotResult) (s : State) : (latch w r s).tx = s.tx := by
  unfold latch; split <;> rfl

@[simp] theorem latch_evt (w : Nat) (r : SlotResult) (s : State) : (latch w r s).evt = s.evt := by
  unfold latch; split <;> rfl

@[simp] theorem latch_done (w : Nat) (r : SlotResult) (s : State) : (latch w r s).done = s.done := by
  unfold latch; split <;> rfl

@[simp] theorem latch_ret (w : Nat) (r : SlotResult) (s : State) : (latch w r s).ret = s.ret := by
  unfold latch; split <;> rfl

@[simp] theorem latch_port (w : Nat) (r : SlotResult) (s : State) : (latch w r s).port = s.port := by
  unfold latch; split <;> rfl

@[simp] theorem latch_choice (w : Nat) (r : SlotResult) (s : State) : (latch w r s).choice = s.choice := by
  unfold latch; split <;> rfl

/-- What settling a waiter does: it leaves the pending set with its result, and then its caller's AWAIT, or its request,
completes. -/
theorem settle_cases (x : Waiter) (r : SlotResult) (s : State) :
    let s1 := latch x.wid r (removeWaiter x.wid s)
    (x.owner = .caller ∧ settle x r s = completeAwait x.wid s1) ∨
      (∃ rid, x.owner = .req rid ∧ settle x r s = s1) ∨
      (∃ rid c out, x.owner = .req rid ∧ FMap.get? rid s.reqs = some c ∧ requestOutcome c r = some out ∧
        settle x r s = completeRequest rid out s1) := by
  intro s1
  unfold settle
  cases ho : x.owner with
  | caller => exact .inl ⟨rfl, rfl⟩
  | req rid =>
    have hs : s1.reqs = s.reqs := by simp [s1]
    simp only
    cases hc : FMap.get? rid s.reqs with
    | none => exact .inr (.inl ⟨rid, rfl, by simp [hc, s1]⟩)
    | some c =>
      cases hr : requestOutcome c r with
      | none => exact .inr (.inl ⟨rid, rfl, by simp [hc, hr, s1]⟩)
      | some out => exact .inr (.inr ⟨rid, c, out, rfl, hc, hr, by simp [hc, hr, s1]⟩)

@[simp] theorem settle_rxbuf (x : Waiter) (r : SlotResult) (s : State) : (settle x r s).rxbuf = s.rxbuf := by
  rcases settle_cases x r s with ⟨_, h⟩ | ⟨_, _, h⟩ | ⟨_, _, _, _, _, _, h⟩ <;> rw [h] <;> simp

@[simp] theorem settle_nextWid (x : Waiter) (r : SlotResult) (s : State) : (settle x r s).nextWid = s.nextWid := by
  rcases settle_cases x r s with ⟨_, h⟩ | ⟨_, _, h⟩ | ⟨_, _, _, _, _, _, h⟩ <;> rw [h] <;> simp

@[simp] theorem settle_nextRid (x : Waiter) (r : SlotResult) (s : State) : (settle x r s).nextRid = s.nextRid := by
  rcases settle_cases x r s with ⟨_, h⟩ | ⟨_, _, h⟩ | ⟨_, _, _, _, _, _, h⟩ <;> rw [h] <;> simp

@[simp] theorem settle_now (x : Waiter) (r : SlotResult) (s : State) : (settle x r s).now = s.now := by
  rcases settle_cases x r s with ⟨_, h⟩ | ⟨_, _, h⟩ | ⟨_, _, _, _, _, _, h⟩ <;> rw [h] <;> simp

@[simp] theorem settle_gateQueue (x : Waiter) (r : SlotResult) (s : State) : (settle x r s).gateQueue = s.gateQueue := by
  rcases settle_cases x r s with ⟨_, h⟩ | ⟨_, _, h⟩ | ⟨_, _, _, _, _, _, h⟩ <;> rw [h] <;> simp

@[simp] theorem settle_config (x : Waiter) (r : SlotResult) (s : State) : (settle x r s).config = s.config := by
  rcases settle_cases x r s with ⟨_, h⟩ | ⟨_, _, h⟩ | ⟨_, _, _, _, _, _, h⟩ <;> rw [h] <;> simp

@[simp] theorem settle_cmdTable (x : Waiter) (r : SlotResult) (s : State) : (settle x r s).cmdTable = s.cmdTable := by
  rcases settle_cases x r s with ⟨_, h⟩ | ⟨_, _, h⟩ | ⟨_, _, _, _, _, _, h⟩ <;> rw [h] <;> simp

@[simp] theorem settle_handlers (x : Waiter) (r : SlotResult) (s : State) : (settle x r s).handlers = s.handlers := by
  rcases settle_cases x r s with ⟨_, h⟩ | ⟨_, _, h⟩ | ⟨_, _, _, _, _, _, h⟩ <;> rw [h] <;> simp

@[simp] theorem settle_tx (x : Waiter) (r : SlotResult) (s : State) : (settle x r s).tx = s.tx := by
  rcases settle_cases x r s with ⟨_, h⟩ | ⟨_, _, h⟩ | ⟨_, _, _, _, _, _, h⟩ <;> rw [h] <;> simp

@[simp] theorem settle_evt (x : Waiter) (r : SlotResult) (s : State) : (settle x r s).evt = s.evt := by
  rcases settle_cases x r s with ⟨_, h⟩ | ⟨_, _, h⟩ | ⟨_, _, _, _, _, _, h⟩ <;> rw [h] <;> simp

@[simp] theorem settle_ret (x : Waiter) (r : SlotResult) (s : State) : (settle x r s).ret = s.ret := by
  rcases settle_cases x r s with ⟨_, h⟩ | ⟨_, _, h⟩ | ⟨_, _, _, _, _, _, h⟩ <;> rw [h] <;> simp

@[simp] theorem settle_port (x : Waiter) (r : SlotResult) (s : State) : (settle x r s).port = s.port := by
  rcases settle_cases x r s with ⟨_, h⟩ | ⟨_, _, h⟩ | ⟨_, _, _, _, _, _, h⟩ <;> rw [h] <;> simp

@[simp] theorem settle_choice (x : Waiter) (r : SlotResult) (s : State) : (settle x r s).choice = s.choice := by
  rcases settle_cases x r s with ⟨_, h⟩ | ⟨_, _, h⟩ | ⟨_, _, _, _, _, _, h⟩ <;> rw [h] <;> simp

/-- The pending set loses the settled waiter and no other. -/
@[simp] theorem settle_waiters (x : Waiter) (r : SlotResult) (s : State) :
    (settle x r s).waiters = s.waiters.filter (fun y => y.wid != x.wid) := by
  rcases settle_cases x r s with ⟨_, h⟩ | ⟨_, _, h⟩ | ⟨_, _, _, _, _, _, h⟩ <;> rw [h] <;> simp

/-! ## Issuing (R243 to R245) and the gate (R262) -/

/-- Issuing a request that awaits a reply: the waiter, the frame and the phase, or a completion where there is no room. -/
theorem issueAwaiting_cases (rid : Nat) (c : ReqCtx) (t : CmdType) (u : Subsystem) (n : String) (s : State) :
    (s.config.waiterCap = some s.waiters.length ∧
        issueAwaiting rid c t u n s = completeRequest rid (.err .waiterTableFull) s) ∨
      (s.config.waiterCap ≠ some s.waiters.length ∧
        issueAwaiting rid c t u n s =
          { s with
            nextWid := s.nextWid + 1
            waiters := s.waiters ++ [⟨s.nextWid, t, u, n, .nil, s.now + c.timeout.getD 0, .req rid⟩]
            slots := FMap.set s.nextWid ⟨.pending, false⟩ s.slots
            reqs := FMap.set rid { c with wid := some s.nextWid, phase := .awaitingReply } s.reqs
            tx := s.tx ++ [c.bytes] }) := by
  unfold issueAwaiting
  cases h : register t u n .nil (c.timeout.getD 0) (.req rid) s with
  | error e =>
    obtain ⟨hc, rfl⟩ := register_error h
    exact .inl ⟨hc, rfl⟩
  | ok p =>
    obtain ⟨w, s1⟩ := p
    obtain ⟨hc, rfl, rfl⟩ := register_ok h
    exact .inr ⟨hc, by simp [setReq, setPhase, emitTx]⟩

/-- What the block does when it admits a request: nothing where the gate is held or no request waits, else it takes one. -/
theorem grantGate_cases (s : State) :
    (grantEnabled s = false ∧ grantGate s = s) ∨
      ∃ rid s1, grantEnabled s = true ∧ pickQueued s = some (rid, s1) ∧
        grantGate s = issue rid { unqueue rid s1 with gate := .held rid } := by
  unfold grantGate grantEnabled
  cases hg : s.gate with
  | held r => exact .inl ⟨by simp, rfl⟩
  | free =>
    cases hq : s.gateQueue with
    | nil => exact .inl ⟨by simp, by simp [pickQueued, hq]⟩
    | cons q qs =>
      cases ho : s.config.gateOrder with
      | any => exact .inr ⟨_, _, by simp, by simp [pickQueued, hq, ho]; exact ⟨rfl, rfl⟩, by simp [pickQueued, hq, ho]⟩
      | oldest => exact .inr ⟨_, _, by simp, by simp [pickQueued, hq, ho]; exact ⟨rfl, rfl⟩, by simp [pickQueued, hq, ho]⟩

/-- The request that is picked was held for the gate, and at most the counter of free choices moves. -/
theorem pickQueued_mem {s s1 : State} {rid : Nat} (h : pickQueued s = some (rid, s1)) :
    rid ∈ s.gateQueue ∧ ∃ n, s1 = { s with choice := n } := by
  unfold pickQueued at h
  split at h
  · cases h
  · rename_i q qs hq
    split at h
    · cases h
      refine ⟨?_, _, rfl⟩
      have hlt : Config.freeChoice s.choice % (q :: qs).length < (q :: qs).length := Nat.mod_lt _ (by simp)
      rw [hq, List.getD_eq_getElem _ _ hlt]
      exact List.getElem_mem hlt
    · cases h
      exact ⟨by simp [hq], s.choice, rfl⟩

/-! ## Re-assembly (R105 to R111) -/

/-- The bytes kept by a scan for the marker begin with it and end the accumulator. -/
theorem scanToMarker_suffix (l : List Byte) : scanToMarker l <:+ l := by
  induction l with
  | nil => exact List.suffix_rfl
  | cons b bs ih =>
    unfold scanToMarker
    split
    · exact List.suffix_rfl
    · exact ih.trans (List.suffix_cons b bs)

theorem scanToMarker_head {l : List Byte} {b : Byte} {bs : List Byte} (h : scanToMarker l = b :: bs) : b = marker := by
  induction l with
  | nil => cases h
  | cons c cs ih =>
    unfold scanToMarker at h
    split at h
    · cases h; assumption
    · exact ih h

/-- A sliced frame and the rest are the accumulator, and the frame has the size its length byte says. -/
theorem sliceFrame_frame {m : Nat} {buf f rest : List Byte} (h : sliceFrame m buf = .frame f rest) :
    f ++ rest = buf ∧ m < buf.length ∧ ∃ l, buf[1]? = some l ∧ f.length = 5 + l.toNat := by
  unfold sliceFrame at h
  split at h
  · cases h
  · rename_i hm
    split at h
    · cases h
    · rename_i l hl
      split at h
      · cases h
      · rename_i hlen
        cases h
        exact ⟨List.take_append_drop _ _, by omega, l, hl, by rw [List.length_take]; omega⟩

/-- A scan that waits keeps the accumulator or an end of it. -/
theorem sliceFrame_wait {m : Nat} {buf keep : List Byte} (h : sliceFrame m buf = .wait keep) : keep = buf := by
  unfold sliceFrame at h
  split at h
  · cases h; rfl
  · split at h
    · cases h; rfl
    · split at h <;> cases h
      rfl

/-- Whatever a pass keeps or leaves is an end of the accumulator. -/
theorem rxScan_wait {cfg : Config} {buf keep : List Byte} (h : rxScan cfg buf = .wait keep) : keep <:+ buf := by
  unfold rxScan at h
  split at h
  · cases h; exact List.suffix_rfl
  · rename_i b bs
    split at h
    · rw [sliceFrame_wait h]
    · split at h
      · cases h; exact List.nil_suffix
      · split at h
        · cases h; exact List.nil_suffix
        · rename_i c cs hs
          rw [sliceFrame_wait h, ← hs]
          exact (scanToMarker_suffix bs).trans (List.suffix_cons b bs)

/-- A frame that a pass extracts, followed by what it leaves, is an end of the accumulator that begins with the marker. -/
theorem rxScan_frame {cfg : Config} {buf f rest : List Byte} (h : rxScan cfg buf = .frame f rest) :
    (f ++ rest) <:+ buf ∧ f.head? = some marker ∧ ∃ l, f[1]? = some l ∧ f.length = 5 + l.toNat := by
  have key : ∀ {m : Nat} {c : Byte} {cs : List Byte}, c = marker → sliceFrame m (c :: cs) = .frame f rest →
      f ++ rest = c :: cs ∧ f.head? = some marker ∧ ∃ l, f[1]? = some l ∧ f.length = 5 + l.toNat := by
    intro m c cs hc hs
    obtain ⟨hf, _, l, hl, hlen⟩ := sliceFrame_frame hs
    match f, hlen with
    | a :: b :: f, hlen =>
      simp only [List.cons_append, List.cons.injEq] at hf
      obtain ⟨rfl, rfl⟩ := hf
      simp only [List.getElem?_cons_succ, List.getElem?_cons_zero, Option.some.injEq] at hl
      subst hl
      exact ⟨rfl, by simp [hc], b, rfl, hlen⟩
    | [a], hlen => simp at hlen; omega
    | [], hlen => simp at hlen; omega
  unfold rxScan at h
  split at h
  · cases h
  · rename_i b bs
    split at h
    · rename_i hb
      obtain ⟨h1, h2, h3⟩ := key hb h
      exact ⟨h1 ▸ List.suffix_rfl, h2, h3⟩
    · split at h
      · cases h
      · split at h
        · cases h
        · rename_i c cs hs
          obtain ⟨h1, h2, h3⟩ := key (scanToMarker_head hs) h
          exact ⟨h1 ▸ hs ▸ (scanToMarker_suffix bs).trans (List.suffix_cons b bs), h2, h3⟩

end Sys2Proof.Machine
end

