-- ==== Sys2Proof/Laws/PerInstr.lean ====
section
/-! SUPPORT. One lemma per instruction: what `encode` presents for it fits its own row of spec/opcode_table.json, that is, the operation word
is the row's match, or the first four bytes agree with the row's match under its mask. -/

namespace Sys2Proof.Laws

open Sys2Proof

/-- One byte of a row: its match and its mask. -/
abbrev FitsTable.ByteRow := Byte × Byte

/-- The match and the mask of the instruction's row, byte by byte in the order of the wire. -/
def FitsTable.row : Instr → List FitsTable.ByteRow
  | .frameEncode _ _ _ _ => [(0x00, 0xFF)]
  | .rxPush _ => [(0x01, 0xFF)]
  | .checksum _ => [(0x02, 0xFF)]
  | .pwriteUint8 _ _ => [(0x20, 0xFF)]
  | .pwriteUint16 _ _ => [(0x21, 0xFF)]
  | .pwriteUint32 _ _ => [(0x22, 0xFF)]
  | .pwriteIeeeaddr _ _ => [(0x23, 0xFF)]
  | .pwriteBuffer _ _ => [(0x24, 0xFF)]
  | .pwriteBuffer8 _ _ => [(0x25, 0xFF)]
  | .pwriteBuffer16 _ _ => [(0x26, 0xFF)]
  | .pwriteBuffer18 _ _ => [(0x27, 0xFF)]
  | .pwriteBuffer32 _ _ => [(0x28, 0xFF)]
  | .pwriteBuffer42 _ _ => [(0x29, 0xFF)]
  | .pwriteBuffer100 _ _ => [(0x2A, 0xFF)]
  | .pwriteListUint8 _ _ => [(0x2B, 0xFF)]
  | .pwriteListUint16 _ _ => [(0x2C, 0xFF)]
  | .pwriteListRoutingTable _ _ => [(0x2D, 0xFF)]
  | .pwriteListBindTable _ _ => [(0x2E, 0xFF)]
  | .pwriteListNeighborLqi _ _ => [(0x2F, 0xFF)]
  | .pwriteListNetwork _ _ => [(0x30, 0xFF)]
  | .pwriteListAssocDev _ _ => [(0x31, 0xFF)]
  | .pwriteInt8 _ _ => [(0x32, 0xFF)]
  | .pwriteInt16 _ _ => [(0x33, 0xFF)]
  | .pwriteInt32 _ _ => [(0x34, 0xFF)]
  | .preadUint8 _ _ _ => [(0x40, 0xFF)]
  | .preadUint16 _ _ _ => [(0x41, 0xFF)]
  | .preadUint32 _ _ _ => [(0x42, 0xFF)]
  | .preadIeeeaddr _ _ _ => [(0x43, 0xFF)]
  | .preadBuffer _ _ _ => [(0x44, 0xFF)]
  | .preadBuffer8 _ _ _ => [(0x45, 0xFF)]
  | .preadBuffer16 _ _ _ => [(0x46, 0xFF)]
  | .preadBuffer18 _ _ _ => [(0x47, 0xFF)]
  | .preadBuffer32 _ _ _ => [(0x48, 0xFF)]
  | .preadBuffer42 _ _ _ => [(0x49, 0xFF)]
  | .preadBuffer100 _ _ _ => [(0x4A, 0xFF)]
  | .preadListUint8 _ _ _ => [(0x4B, 0xFF)]
  | .preadListUint16 _ _ _ => [(0x4C, 0xFF)]
  | .preadListRoutingTable _ _ _ => [(0x4D, 0xFF)]
  | .preadListBindTable _ _ _ => [(0x4E, 0xFF)]
  | .preadListNeighborLqi _ _ _ => [(0x4F, 0xFF)]
  | .preadListNetwork _ _ _ => [(0x50, 0xFF)]
  | .preadListAssocDev _ _ _ => [(0x51, 0xFF)]
  | .preadInt8 _ _ _ => [(0x52, 0xFF)]
  | .preadInt16 _ _ _ => [(0x53, 0xFF)]
  | .preadInt32 _ _ _ => [(0x54, 0xFF)]
  | .fromFrame _ => [(0x60, 0xFF)]
  | .toFrame _ => [(0x61, 0xFF)]
  | .fromCommand _ _ _ => [(0x62, 0xFF)]
  | .fromCluster _ _ _ _ _ _ _ => [(0x63, 0xFF)]
  | .isResetCommand _ => [(0x64, 0xFF)]
  | .lookupById _ _ => [(0x65, 0xFF)]
  | .lookupByName _ _ => [(0x66, 0xFF)]
  | .request _ _ _ _ => [(0x80, 0xFF)]
  | .createResponseWaiter _ _ _ _ _ => [(0x81, 0xFF)]
  | .await _ => [(0x82, 0xFF)]
  | .cancelRequest _ => [(0x83, 0xFF)]
  | .cancelWaiter _ => [(0x84, 0xFF)]
  | .tick _ => [(0x85, 0xFF)]
  | .disconnect => [(0x86, 0xFF)]
  | .frameReceived _ => [(0xE0, 0xFF)]
  | .gateGrant => [(0xE1, 0xFF)]
  | .framePoll _ _ _ _ _ => [(0xFE, 0xFF), (0x00, 0x00), (0x00, 0xE0), (0x00, 0x00)]
  | .frameSreq _ _ _ _ _ => [(0xFE, 0xFF), (0x00, 0x00), (0x20, 0xE0), (0x00, 0x00)]
  | .frameAreq _ _ _ _ _ => [(0xFE, 0xFF), (0x00, 0x00), (0x40, 0xE0), (0x00, 0x00)]
  | .frameSrsp _ _ _ _ _ => [(0xFE, 0xFF), (0x00, 0x00), (0x60, 0xE0), (0x00, 0x00)]
  | .frameReservedType _ _ _ _ _ _ => [(0xFE, 0xFF), (0x00, 0x00), (0x80, 0x80), (0x00, 0x00)]

/-- The bytes of an input that a row speaks of: the operation word, or the chunk. -/
def FitsTable.words : Input → List Byte
  | .op _ word _ => [word]
  | .wire bs => bs

/-- The bytes agree with the row, as far as the row goes. -/
def FitsTable.fits : List FitsTable.ByteRow → List Byte → Prop
  | [], _ => True
  | _ :: _, [] => False
  | r :: rs, b :: bs => b &&& r.2 = r.1 ∧ FitsTable.fits rs bs

/-- The instruction as presented fits its row. -/
def FitsTable.Statement (i : Instr) : Prop := FitsTable.fits (FitsTable.row i) (FitsTable.words (encode i))

/-- A wire frame's first four bytes fit the row of its type. -/
theorem FitsTable.fits_frame {t : Nat} {m k : Byte} (h : ∀ s : Subsystem, cmd0 t s.toNat &&& k = m) (l : Byte) (s : Subsystem)
    (i : Byte) (p : List Byte) (x : Byte) :
    FitsTable.fits [(0xFE, 0xFF), (0x00, 0x00), (m, k), (0x00, 0x00)] (FitsTable.words (encodeFrameInstr t l s i p x)) := by
  simp [FitsTable.fits, FitsTable.words, encodeFrameInstr, wireBytes, marker, h s]

theorem FitsTable.frameEncode (ctype subsystem commandId : Nat) (payload : List Byte) :
    FitsTable.Statement (.frameEncode ctype subsystem commandId payload) := ⟨by decide, trivial⟩

theorem FitsTable.rxPush (chunk : List Byte) :
    FitsTable.Statement (.rxPush chunk) := ⟨by decide, trivial⟩

theorem FitsTable.checksum (s : List Byte) :
    FitsTable.Statement (.checksum s) := ⟨by decide, trivial⟩

theorem FitsTable.pwriteUint8 (value : Value) (w : List Byte) :
    FitsTable.Statement (.pwriteUint8 value w) := ⟨by decide, trivial⟩

theorem FitsTable.pwriteUint16 (value : Value) (w : List Byte) :
    FitsTable.Statement (.pwriteUint16 value w) := ⟨by decide, trivial⟩

theorem FitsTable.pwriteUint32 (value : Value) (w : List Byte) :
    FitsTable.Statement (.pwriteUint32 value w) := ⟨by decide, trivial⟩

theorem FitsTable.pwriteIeeeaddr (value : Value) (w : List Byte) :
    FitsTable.Statement (.pwriteIeeeaddr value w) := ⟨by decide, trivial⟩

theorem FitsTable.pwriteBuffer (value : Value) (w : List Byte) :
    FitsTable.Statement (.pwriteBuffer value w) := ⟨by decide, trivial⟩

theorem FitsTable.pwriteBuffer8 (value : Value) (w : List Byte) :
    FitsTable.Statement (.pwriteBuffer8 value w) := ⟨by decide, trivial⟩

theorem FitsTable.pwriteBuffer16 (value : Value) (w : List Byte) :
    FitsTable.Statement (.pwriteBuffer16 value w) := ⟨by decide, trivial⟩

theorem FitsTable.pwriteBuffer18 (value : Value) (w : List Byte) :
    FitsTable.Statement (.pwriteBuffer18 value w) := ⟨by decide, trivial⟩

theorem FitsTable.pwriteBuffer32 (value : Value) (w : List Byte) :
    FitsTable.Statement (.pwriteBuffer32 value w) := ⟨by decide, trivial⟩

theorem FitsTable.pwriteBuffer42 (value : Value) (w : List Byte) :
    FitsTable.Statement (.pwriteBuffer42 value w) := ⟨by decide, trivial⟩

theorem FitsTable.pwriteBuffer100 (value : Value) (w : List Byte) :
    FitsTable.Statement (.pwriteBuffer100 value w) := ⟨by decide, trivial⟩

theorem FitsTable.pwriteListUint8 (value : Value) (w : List Byte) :
    FitsTable.Statement (.pwriteListUint8 value w) := ⟨by decide, trivial⟩

theorem FitsTable.pwriteListUint16 (value : Value) (w : List Byte) :
    FitsTable.Statement (.pwriteListUint16 value w) := ⟨by decide, trivial⟩

theorem FitsTable.pwriteListRoutingTable (value : Value) (w : List Byte) :
    FitsTable.Statement (.pwriteListRoutingTable value w) := ⟨by decide, trivial⟩

theorem FitsTable.pwriteListBindTable (value : Value) (w : List Byte) :
    FitsTable.Statement (.pwriteListBindTable value w) := ⟨by decide, trivial⟩

theorem FitsTable.pwriteListNeighborLqi (value : Value) (w : List Byte) :
    FitsTable.Statement (.pwriteListNeighborLqi value w) := ⟨by decide, trivial⟩

theorem FitsTable.pwriteListNetwork (value : Value) (w : List Byte) :
    FitsTable.Statement (.pwriteListNetwork value w) := ⟨by decide, trivial⟩

theorem FitsTable.pwriteListAssocDev (value : Value) (w : List Byte) :
    FitsTable.Statement (.pwriteListAssocDev value w) := ⟨by decide, trivial⟩

theorem FitsTable.pwriteInt8 (value : Value) (w : List Byte) :
    FitsTable.Statement (.pwriteInt8 value w) := ⟨by decide, trivial⟩

theorem FitsTable.pwriteInt16 (value : Value) (w : List Byte) :
    FitsTable.Statement (.pwriteInt16 value w) := ⟨by decide, trivial⟩

theorem FitsTable.pwriteInt32 (value : Value) (w : List Byte) :
    FitsTable.Statement (.pwriteInt32 value w) := ⟨by decide, trivial⟩

theorem FitsTable.preadUint8 (opts : ReadOpts) (buf : List Byte) (pos : Nat) :
    FitsTable.Statement (.preadUint8 opts buf pos) := ⟨by decide, trivial⟩

theorem FitsTable.preadUint16 (opts : ReadOpts) (buf : List Byte) (pos : Nat) :
    FitsTable.Statement (.preadUint16 opts buf pos) := ⟨by decide, trivial⟩

theorem FitsTable.preadUint32 (opts : ReadOpts) (buf : List Byte) (pos : Nat) :
    FitsTable.Statement (.preadUint32 opts buf pos) := ⟨by decide, trivial⟩

theorem FitsTable.preadIeeeaddr (opts : ReadOpts) (buf : List Byte) (pos : Nat) :
    FitsTable.Statement (.preadIeeeaddr opts buf pos) := ⟨by decide, trivial⟩

theorem FitsTable.preadBuffer (opts : ReadOpts) (buf : List Byte) (pos : Nat) :
    FitsTable.Statement (.preadBuffer opts buf pos) := ⟨by decide, trivial⟩

theorem FitsTable.preadBuffer8 (opts : ReadOpts) (buf : List Byte) (pos : Nat) :
    FitsTable.Statement (.preadBuffer8 opts buf pos) := ⟨by decide, trivial⟩

theorem FitsTable.preadBuffer16 (opts : ReadOpts) (buf : List Byte) (pos : Nat) :
    FitsTable.Statement (.preadBuffer16 opts buf pos) := ⟨by decide, trivial⟩

theorem FitsTable.preadBuffer18 (opts : ReadOpts) (buf : List Byte) (pos : Nat) :
    FitsTable.Statement (.preadBuffer18 opts buf pos) := ⟨by decide, trivial⟩

theorem FitsTable.preadBuffer32 (opts : ReadOpts) (buf : List Byte) (pos : Nat) :
    FitsTable.Statement (.preadBuffer32 opts buf pos) := ⟨by decide, trivial⟩

theorem FitsTable.preadBuffer42 (opts : ReadOpts) (buf : List Byte) (pos : Nat) :
    FitsTable.Statement (.preadBuffer42 opts buf pos) := ⟨by decide, trivial⟩

theorem FitsTable.preadBuffer100 (opts : ReadOpts) (buf : List Byte) (pos : Nat) :
    FitsTable.Statement (.preadBuffer100 opts buf pos) := ⟨by decide, trivial⟩

theorem FitsTable.preadListUint8 (opts : ReadOpts) (buf : List Byte) (pos : Nat) :
    FitsTable.Statement (.preadListUint8 opts buf pos) := ⟨by decide, trivial⟩

theorem FitsTable.preadListUint16 (opts : ReadOpts) (buf : List Byte) (pos : Nat) :
    FitsTable.Statement (.preadListUint16 opts buf pos) := ⟨by decide, trivial⟩

theorem FitsTable.preadListRoutingTable (opts : ReadOpts) (buf : List Byte) (pos : Nat) :
    FitsTable.Statement (.preadListRoutingTable opts buf pos) := ⟨by decide, trivial⟩

theorem FitsTable.preadListBindTable (opts : ReadOpts) (buf : List Byte) (pos : Nat) :
    FitsTable.Statement (.preadListBindTable opts buf pos) := ⟨by decide, trivial⟩

theorem FitsTable.preadListNeighborLqi (opts : ReadOpts) (buf : List Byte) (pos : Nat) :
    FitsTable.Statement (.preadListNeighborLqi opts buf pos) := ⟨by decide, trivial⟩

theorem FitsTable.preadListNetwork (opts : ReadOpts) (buf : List Byte) (pos : Nat) :
    FitsTable.Statement (.preadListNetwork opts buf pos) := ⟨by decide, trivial⟩

theorem FitsTable.preadListAssocDev (opts : ReadOpts) (buf : List Byte) (pos : Nat) :
    FitsTable.Statement (.preadListAssocDev opts buf pos) := ⟨by decide, trivial⟩

theorem FitsTable.preadInt8 (opts : ReadOpts) (buf : List Byte) (pos : Nat) :
    FitsTable.Statement (.preadInt8 opts buf pos) := ⟨by decide, trivial⟩

theorem FitsTable.preadInt16 (opts : ReadOpts) (buf : List Byte) (pos : Nat) :
    FitsTable.Statement (.preadInt16 opts buf pos) := ⟨by decide, trivial⟩

theorem FitsTable.preadInt32 (opts : ReadOpts) (buf : List Byte) (pos : Nat) :
    FitsTable.Statement (.preadInt32 opts buf pos) := ⟨by decide, trivial⟩

theorem FitsTable.fromFrame (f : Frame) :
    FitsTable.Statement (.fromFrame f) := ⟨by decide, trivial⟩

theorem FitsTable.toFrame (obj : CommandObject) :
    FitsTable.Statement (.toFrame obj) := ⟨by decide, trivial⟩

theorem FitsTable.fromCommand (subsystem : Nat) (name : String) (payload : Fields) :
    FitsTable.Statement (.fromCommand subsystem name payload) := ⟨by decide, trivial⟩

theorem FitsTable.fromCluster (dst profile cluster srcEp dstEp tsn : Nat) (data : List Byte) :
    FitsTable.Statement (.fromCluster dst profile cluster srcEp dstEp tsn data) := ⟨by decide, trivial⟩

theorem FitsTable.isResetCommand (obj : CommandObject) :
    FitsTable.Statement (.isResetCommand obj) := ⟨by decide, trivial⟩

theorem FitsTable.lookupById (subsystem wireId : Nat) :
    FitsTable.Statement (.lookupById subsystem wireId) := ⟨by decide, trivial⟩

theorem FitsTable.lookupByName (subsystem : Nat) (name : String) :
    FitsTable.Statement (.lookupByName subsystem name) := ⟨by decide, trivial⟩

theorem FitsTable.request (subsystem : Nat) (name : String) (payload : Fields) (expectedStatus : List Int) :
    FitsTable.Statement (.request subsystem name payload expectedStatus) := ⟨by decide, trivial⟩

theorem FitsTable.createResponseWaiter (ctype subsystem : Nat) (name : String) (matcher : Fields) (timeout : Option Nat) :
    FitsTable.Statement (.createResponseWaiter ctype subsystem name matcher timeout) := ⟨by decide, trivial⟩

theorem FitsTable.await (wid : Nat) :
    FitsTable.Statement (.await wid) := ⟨by decide, trivial⟩

theorem FitsTable.cancelRequest (rid : Nat) :
    FitsTable.Statement (.cancelRequest rid) := ⟨by decide, trivial⟩

theorem FitsTable.cancelWaiter (wid : Nat) :
    FitsTable.Statement (.cancelWaiter wid) := ⟨by decide, trivial⟩

theorem FitsTable.tick (dt : Nat) :
    FitsTable.Statement (.tick dt) := ⟨by decide, trivial⟩

theorem FitsTable.disconnect :
    FitsTable.Statement (.disconnect) := ⟨by decide, trivial⟩

theorem FitsTable.frameReceived (f : Frame) :
    FitsTable.Statement (.frameReceived f) := ⟨by decide, trivial⟩

theorem FitsTable.gateGrant :
    FitsTable.Statement (.gateGrant) := ⟨by decide, trivial⟩

theorem FitsTable.framePoll (length : Byte) (subsystem : Subsystem) (commandId : Byte) (payload : List Byte) (checksum : Byte) :
    FitsTable.Statement (.framePoll length subsystem commandId payload checksum) :=
  FitsTable.fits_frame (by decide) length subsystem commandId payload checksum

theorem FitsTable.frameSreq (length : Byte) (subsystem : Subsystem) (commandId : Byte) (payload : List Byte) (checksum : Byte) :
    FitsTable.Statement (.frameSreq length subsystem commandId payload checksum) :=
  FitsTable.fits_frame (by decide) length subsystem commandId payload checksum

theorem FitsTable.frameAreq (length : Byte) (subsystem : Subsystem) (commandId : Byte) (payload : List Byte) (checksum : Byte) :
    FitsTable.Statement (.frameAreq length subsystem commandId payload checksum) :=
  FitsTable.fits_frame (by decide) length subsystem commandId payload checksum

theorem FitsTable.frameSrsp (length : Byte) (subsystem : Subsystem) (commandId : Byte) (payload : List Byte) (checksum : Byte) :
    FitsTable.Statement (.frameSrsp length subsystem commandId payload checksum) :=
  FitsTable.fits_frame (by decide) length subsystem commandId payload checksum

theorem FitsTable.frameReservedType (typeLow : BitVec 2) (length : Byte) (subsystem : Subsystem) (commandId : Byte) (payload : List Byte) (checksum : Byte) :
    FitsTable.Statement (.frameReservedType typeLow length subsystem commandId payload checksum) :=
  FitsTable.fits_frame (by revert typeLow; decide) length subsystem commandId payload checksum

end Sys2Proof.Laws
end

