-- ==== Sys2Proof/Machine/Assembler.lean ====
section
/-! DEFINITION. The textual syntax of operations (spec/30_encoding.md R84) and the pseudo-operation `request_with_indication`
(R85). No step reads a text: an agent presents operation words. Choices where R84 leaves the text open: notes/assumptions/29. -/

namespace Sys2Proof.Machine.Asm

open Sys2Proof

/-! ## Values -/

/-- An opening brace. -/
def braceL : String := String.singleton (Char.ofNat 123)

/-- A closing brace. -/
def braceR : String := String.singleton (Char.ofNat 125)

/-- Pieces with a separator between them. -/
def joined (sep : String) : List String → String
  | [] => ""
  | [a] => a
  | a :: l => a ++ sep ++ joined sep l

/-- One hexadecimal digit, `base` the code of its ten (65 upper case, 97 lower case). -/
def hexDigit (base n : Nat) : String := String.singleton (Char.ofNat (if n < 10 then 48 + n else base + (n - 10)))

/-- A byte as two hexadecimal digits. -/
def hexByte (base : Nat) (b : Byte) : String := hexDigit base (b.toNat / 16) ++ hexDigit base (b.toNat % 16)

/-- R84 `<hex bytes>`. -/
def hexBytes (s : List Byte) : String := joined " " (s.map (hexByte 65))

/-- R84: an identifier in its textual order. -/
def euiText (t : Eui) : String :=
  "eui:" ++ joined ":" ([t.t0, t.t1, t.t2, t.t3, t.t4, t.t5, t.t6, t.t7].map (hexByte 97))

/-- R84: a network address. -/
def nwkText (n : BitVec 16) : String := "nwk:0x" ++ hexByte 65 (n.extractLsb' 8 8) ++ hexByte 65 (n.extractLsb' 0 8)

/-- R84: a byte sequence between double quotes. -/
def bytesText (s : List Byte) : String :=
  "b" ++ String.singleton (Char.ofNat 34) ++ hexBytes s ++ String.singleton (Char.ofNat 34)

/-- An integer in decimal. -/
def intText (n : Int) : String := if n < 0 then "-" ++ Nat.repr n.natAbs else Nat.repr n.natAbs

mutual
/-- R84: a value. -/
def valueText : Value → String
  | .int n => intText n
  | .nwk n => nwkText n
  | .eui t => euiText t
  | .bytes s => bytesText s
  | .list vs => "[" ++ joined ", " (valueTexts vs) ++ "]"
  | .record m => braceL ++ joined ", " (fieldTexts m) ++ braceR

/-- R84: the elements of a list. -/
def valueTexts : Values → List String
  | .nil => []
  | .cons v vs => valueText v :: valueTexts vs

/-- R84: the `<field>: <value>` items of a map. -/
def fieldTexts : Fields → List String
  | .nil => []
  | .cons k v m => (k ++ ": " ++ valueText v) :: fieldTexts m
end

/-- R84: a map of fields. -/
def payloadText (m : Fields) : String := braceL ++ joined ", " (fieldTexts m) ++ braceR

/-- R74: the name of a subsystem, or its number. -/
def subsystemText (n : Nat) : String :=
  match [(1, "SYS"), (2, "MAC"), (3, "NWK"), (4, "AF"), (5, "ZDO"), (6, "SAPI"), (7, "UTIL"), (8, "DEBUG"), (9, "APP"),
      (15, "APP_CNF"), (21, "GREENPOWER")].find? (fun e => e.1 == n) with
  | some e => e.2
  | none => Nat.repr n

/-- R73: the name of a command type, or its number. -/
def typeText (n : Nat) : String :=
  match CmdType.ofNat? n with
  | some .poll => "POLL"
  | some .sreq => "SREQ"
  | some .areq => "AREQ"
  | some .srsp => "SRSP"
  | none => Nat.repr n

/-- A Frame is written by the bytes of its own fields. -/
def frameText (f : Frame) : String :=
  hexBytes (wireBytes f.length (cmd0 f.commandType.toNat f.subsystem.toNat) f.commandId f.payload f.checksum)

/-- A CommandObject as its examples are written (R207). -/
def objectText (o : CommandObject) : String :=
  braceL ++ joined ", " [typeText o.commandType.toBits.toNat, subsystemText o.subsystem.toNat, o.name, Nat.repr o.wireId.toNat,
    payloadText o.payload] ++ braceR

/-- R82: the name of a tag in lower case. -/
def tagText : Tag → String
  | .uint8 => "uint8"
  | .uint16 => "uint16"
  | .uint32 => "uint32"
  | .ieeeaddr => "ieeeaddr"
  | .buffer => "buffer"
  | .buffer8 => "buffer8"
  | .buffer16 => "buffer16"
  | .buffer18 => "buffer18"
  | .buffer32 => "buffer32"
  | .buffer42 => "buffer42"
  | .buffer100 => "buffer100"
  | .listUint8 => "list_uint8"
  | .listUint16 => "list_uint16"
  | .listRoutingTable => "list_routing_table"
  | .listBindTable => "list_bind_table"
  | .listNeighborLqi => "list_neighbor_lqi"
  | .listNetwork => "list_network"
  | .listAssocDev => "list_assoc_dev"
  | .int8 => "int8"
  | .int16 => "int16"
  | .int32 => "int32"

/-! ## Operations -/

/-- Words of a line that are not empty, one space between. -/
def line (l : List String) : String := joined " " (l.filter (fun x => x != ""))

/-- R84: an optional `<key>=<n>` item. -/
def optionText (key : String) : Option Nat → String
  | some n => key ++ "=" ++ Nat.repr n
  | none => ""

/-- R84: the line of a write; the buffer it extends is not part of the line. -/
def writeText (t : Tag) (v : Value) : String := line ["pwrite." ++ tagText t, valueText v, "->", "w"]

/-- R84: the line of a read; the bytes it reads are not part of the line. -/
def readText (t : Tag) (o : ReadOpts) (pos : Nat) : String :=
  line ["pread." ++ tagText t, optionText "length" o.length, optionText "start_index" o.startIndex,
    if o.isAddress then "is_address" else "", "@" ++ Nat.repr pos]

/-- R84: the handle of a request. -/
def ridText (n : Nat) : String := "r" ++ Nat.repr n

/-- R84: the handle of a waiter. -/
def widText (n : Nat) : String := "w" ++ Nat.repr n

/-- R84: the line of a chunk. -/
def pushText (s : List Byte) : String := line ["rx_push", hexBytes s]

/-- R84: the line of a waiter, after its handle. -/
def waiterText (ctype subsystem : Nat) (name : String) (matcher : Fields) (timeout : Option Nat) : String :=
  line ["waiter", typeText ctype, subsystemText subsystem, name, payloadText matcher, optionText "timeout" timeout]

/-- R84: the status set of a request. -/
def statusText (expected : List Int) : String := "status=[" ++ joined ", " (expected.map intText) ++ "]"

/-- R84: the operation as one line, the handles being the ones the block in state `s` returns; the internal operations have no
line. -/
def text (s : State) : Instr → Option String
  | .frameEncode c u k p => some (line ["frame_encode", typeText c, subsystemText u, Nat.repr k, hexBytes p])
  | .rxPush c => some (pushText c)
  | .checksum b => some (line ["checksum", hexBytes b])
  | .pwriteUint8 v _ => some (writeText .uint8 v)
  | .pwriteUint16 v _ => some (writeText .uint16 v)
  | .pwriteUint32 v _ => some (writeText .uint32 v)
  | .pwriteIeeeaddr v _ => some (writeText .ieeeaddr v)
  | .pwriteBuffer v _ => some (writeText .buffer v)
  | .pwriteBuffer8 v _ => some (writeText .buffer8 v)
  | .pwriteBuffer16 v _ => some (writeText .buffer16 v)
  | .pwriteBuffer18 v _ => some (writeText .buffer18 v)
  | .pwriteBuffer32 v _ => some (writeText .buffer32 v)
  | .pwriteBuffer42 v _ => some (writeText .buffer42 v)
  | .pwriteBuffer100 v _ => some (writeText .buffer100 v)
  | .pwriteListUint8 v _ => some (writeText .listUint8 v)
  | .pwriteListUint16 v _ => some (writeText .listUint16 v)
  | .pwriteListRoutingTable v _ => some (writeText .listRoutingTable v)
  | .pwriteListBindTable v _ => some (writeText .listBindTable v)
  | .pwriteListNeighborLqi v _ => some (writeText .listNeighborLqi v)
  | .pwriteListNetwork v _ => some (writeText .listNetwork v)
  | .pwriteListAssocDev v _ => some (writeText .listAssocDev v)
  | .pwriteInt8 v _ => some (writeText .int8 v)
  | .pwriteInt16 v _ => some (writeText .int16 v)
  | .pwriteInt32 v _ => some (writeText .int32 v)
  | .preadUint8 o _ p => some (readText .uint8 o p)
  | .preadUint16 o _ p => some (readText .uint16 o p)
  | .preadUint32 o _ p => some (readText .uint32 o p)
  | .preadIeeeaddr o _ p => some (readText .ieeeaddr o p)
  | .preadBuffer o _ p => some (readText .buffer o p)
  | .preadBuffer8 o _ p => some (readText .buffer8 o p)
  | .preadBuffer16 o _ p => some (readText .buffer16 o p)
  | .preadBuffer18 o _ p => some (readText .buffer18 o p)
  | .preadBuffer32 o _ p => some (readText .buffer32 o p)
  | .preadBuffer42 o _ p => some (readText .buffer42 o p)
  | .preadBuffer100 o _ p => some (readText .buffer100 o p)
  | .preadListUint8 o _ p => some (readText .listUint8 o p)
  | .preadListUint16 o _ p => some (readText .listUint16 o p)
  | .preadListRoutingTable o _ p => some (readText .listRoutingTable o p)
  | .preadListBindTable o _ p => some (readText .listBindTable o p)
  | .preadListNeighborLqi o _ p => some (readText .listNeighborLqi o p)
  | .preadListNetwork o _ p => some (readText .listNetwork o p)
  | .preadListAssocDev o _ p => some (readText .listAssocDev o p)
  | .preadInt8 o _ p => some (readText .int8 o p)
  | .preadInt16 o _ p => some (readText .int16 o p)
  | .preadInt32 o _ p => some (readText .int32 o p)
  | .fromFrame f => some (line ["from_frame", frameText f])
  | .toFrame o => some (line ["to_frame", objectText o])
  | .fromCommand u n p => some (line ["from_command", subsystemText u, n, payloadText p])
  | .fromCluster d p c se de t x =>
    some (line ["from_cluster", "dst=" ++ Nat.repr d, "profile=" ++ Nat.repr p, "cluster=" ++ Nat.repr c, "src_ep=" ++ Nat.repr se,
      "dst_ep=" ++ Nat.repr de, "tsn=" ++ Nat.repr t, "data=" ++ hexBytes x])
  | .isResetCommand o => some (line ["is_reset", objectText o])
  | .lookupById u k => some (line ["lookup_id", subsystemText u, Nat.repr k])
  | .lookupByName u n => some (line ["lookup_name", subsystemText u, n])
  | .request u n p e => some (line [ridText s.nextRid, "=", "request", subsystemText u, n, payloadText p, statusText e])
  | .createResponseWaiter c u n m t => some (line [widText s.nextWid, "=", waiterText c u n m t])
  | .await w => some (line ["await", widText w])
  | .cancelRequest r => some (line ["cancel", ridText r])
  | .cancelWaiter w => some (line ["cancel", widText w])
  | .tick dt => some (line ["tick", Nat.repr dt])
  | .disconnect => some "disconnect"
  | .frameReceived _ => none
  | .gateGrant => none
  | .framePoll l u k p x => some (pushText (wireBytes l (cmd0 0 u.toNat) k p x))
  | .frameSreq l u k p x => some (pushText (wireBytes l (cmd0 1 u.toNat) k p x))
  | .frameAreq l u k p x => some (pushText (wireBytes l (cmd0 2 u.toNat) k p x))
  | .frameSrsp l u k p x => some (pushText (wireBytes l (cmd0 3 u.toNat) k p x))
  | .frameReservedType t l u k p x => some (pushText (wireBytes l (cmd0 (4 + t.toNat) u.toNat) k p x))

/-! ## The pseudo-operation (R85) -/

/-- R85: `request_with_indication`: a request, and the indication that it expects. -/
structure Indicated where
  subsystem : Nat
  name : String
  payload : Fields
  expectedStatus : List Int
  expectType : Nat
  expectSubsystem : Nat
  expectName : String
  matcher : Fields
  timeout : Option Nat
deriving DecidableEq, Repr

/-- R85: the two operations presented at once, the waiter before the request. -/
def expandFirst (p : Indicated) : List Instr :=
  [.createResponseWaiter p.expectType p.expectSubsystem p.expectName p.matcher p.timeout,
   .request p.subsystem p.name p.payload p.expectedStatus]

/-- R85: the outcome of a request on `DONE`, none while it has no completion. -/
def outcomeOf (rid : Nat) (s : State) : Option DoneOutcome :=
  (s.done.find? (fun c => c.handle == .req rid)).map (·.outcome)

/-- R85: the operation presented last, once the request has completed: AWAIT, or CANCEL_WAITER after an error. -/
def expandLast (wid rid : Nat) (s : State) : Option Instr :=
  match outcomeOf rid s with
  | none => none
  | some (.err _) => some (.cancelWaiter wid)
  | some (.ok _) => some (.await wid)
  | some .okNone => some (.await wid)

end Sys2Proof.Machine.Asm
end

