-- ==== Sys2Proof/Tests/Slice0.lean ====
section
/-! SUPPORT. The model's own tests: the well-formedness checks, the decoding of written-out words, one or two steps per instruction with the
expected result of spec/95_test_vectors.md, and for each statement a witness that its hypotheses can be met. -/

namespace Sys2Proof.Tests

open Sys2Proof Sys2Proof.Machine Sys2Proof.Claim

/-! ## Small states -/

/-- The default parameters (R7), the open ones at some value. -/
def cfg0 : Config :=
  { Config.default with
    tLong := 7000, longRunning := [], bcastPermitJoin := [], pjAddrMode := 0x0F, layoutNeighbor := Config.someNeighborLayout,
    gateOrder := .oldest }

/-- A block of these parameters whose observer handles every name. -/
def blockOf (cfg : Config) : State := .construct Config.defaultTable (Config.defaultTable.map (·.name)) cfg

def s0 : State := blockOf cfg0

/-- The state after an instruction. -/
def after (i : Instr) (s : State) : State :=
  match exec i s with
  | .next t => t
  | .fault _ => s
  | .refused _ => s

/-- What an instruction answers in `s0`. -/
def answered (i : Instr) : List Response := (after i s0).ret

/-- The table entry `(UTIL, "ping", 0x10, AREQ)` of vector RE-6. -/
def pingEntry : CommandSpec := ⟨7, 0x10, "ping", .areq, [], []⟩

/-- An entry of direction SRSP, as vector RE-25 asks. -/
def pongEntry : CommandSpec := ⟨7, 0x11, "pong", .srsp, [], []⟩

def sPing : State := { s0 with cmdTable := [pingEntry, pongEntry] }

/-- The version request made (vector RE-1). -/
def requested : State := after (.request 1 "version" .nil [0]) s0

/-- A second request behind it (vector RE-20). -/
def queued : State := after (.request 1 "version" .nil [0]) requested

/-- A reset request made (vector RE-4). -/
def resetting : State := after (.request 1 "resetReq" (.cons "type" (.int 1) .nil) [0]) s0

/-- A caller's waiter for a node descriptor response (vector RE-7). -/
def waiting : State := after (.createResponseWaiter 3 5 "nodeDescReq" .nil (some 100)) s0

/-- An AWAIT held on it. -/
def awaiting : State := after (.await 0) waiting

/-- It has timed out. -/
def lapsed : State := after (.tick 100) waiting

/-- The version response of the source's vector S2, as a frame and as bytes. -/
def versionFrame : Frame := ⟨3, 1, 2, [0x02, 0x00, 0x02, 0x06, 0x03, 0x90, 0x15, 0x34, 0x01], 9, 0xDF⟩

def versionBytes : List Byte := [0xFE, 0x09, 0x61, 0x02, 0x02, 0x00, 0x02, 0x06, 0x03, 0x90, 0x15, 0x34, 0x01, 0xDF]

/-- Its payload and its object (vector CO-4). -/
def versionPayload : Fields :=
  Fields.ofList [("transportrev", .int 2), ("product", .int 0), ("majorrel", .int 2), ("minorrel", .int 6), ("maintrel", .int 3),
    ("revision", .int 20190608)]

def versionObject : CommandObject := ⟨.srsp, 1, "version", 2, versionPayload, CommandSpec.version.responseSchema, none⟩

/-- A node descriptor response with status 0 (vector RE-7), and its object. -/
def nodeFrame : Frame := ⟨3, 5, 2, [0], 1, 0x66⟩

def nodeObject : CommandObject := ⟨.srsp, 5, "nodeDescReq", 2, .cons "status" (.int 0) .nil, [.plain "status" 0], none⟩

/-- The request object of the version command (vector CO-9). -/
def versionRequest : CommandObject := ⟨.sreq, 1, "version", 2, .nil, [], none⟩

def resetRequest : CommandObject := ⟨.areq, 1, "resetReq", 0, .cons "type" (.int 1) .nil, [.plain "type" 0], none⟩

def pingRequest : CommandObject := ⟨.areq, 7, "ping", 0x10, .nil, [], none⟩

def pongRequest : CommandObject := ⟨.srsp, 7, "pong", 0x11, .nil, [], none⟩

/-- A map that is not in its canonical form. -/
def badFields : Fields := .cons "b" (.int 0) (.cons "a" (.int 0) .nil)

def badValue : Value := .record badFields

def noOpts : ReadOpts := ⟨none, none, false⟩

def withLength (n : Nat) : ReadOpts := ⟨some n, none, false⟩

/-- The bytes 0, 1, ... of the given number. -/
def ramp (n : Nat) : List Byte := (List.range n).map (BitVec.ofNat 8)

def ieee : Eui := ⟨0xAE, 0x44, 0x01, 0x12, 0x00, 0x4B, 0x12, 0x00⟩

/-! ## Well-formedness: every check refuses an ill-formed term -/

theorem test_wf_frameEncode :
    ([.frameEncode 8 0 0 [], .frameEncode 0 256 0 [], .frameEncode 0 0 256 []] : List Instr).all (fun i => !i.wf) = true := by decide

theorem test_wf_writes :
    ([.pwriteUint8 badValue [], .pwriteUint16 badValue [], .pwriteUint32 badValue [], .pwriteIeeeaddr badValue [], .pwriteBuffer badValue [], .pwriteBuffer8 badValue [], .pwriteBuffer16 badValue [],
      .pwriteBuffer18 badValue [], .pwriteBuffer32 badValue [], .pwriteBuffer42 badValue [], .pwriteBuffer100 badValue [], .pwriteListUint8 badValue [], .pwriteListUint16 badValue [], .pwriteListRoutingTable badValue [],
      .pwriteListBindTable badValue [], .pwriteListNeighborLqi badValue [], .pwriteListNetwork badValue [], .pwriteListAssocDev badValue [], .pwriteInt8 badValue [], .pwriteInt16 badValue [], .pwriteInt32 badValue []] : List Instr).all (fun i => !i.wf) = true := by
  decide

theorem test_wf_commandObject :
    ([.toFrame { zeroObject with payload := badFields }, .isResetCommand { zeroObject with payload := badFields },
      .toFrame { zeroObject with schemaUsed := [.plain "a" 0, .plain "a" 1] }, .isResetCommand { zeroObject with schemaUsed := [.plain "a" 0, .plain "a" 1] },
      .fromCommand 32 "" .nil, .fromCommand 0 "" badFields, .lookupById 32 0, .lookupById 0 256, .lookupByName 32 "",
      .fromCluster 0x10000 0 0 0 0 0 [], .fromCluster 0 0x10000 0 0 0 0 [], .fromCluster 0 0 0x10000 0 0 0 [],
      .fromCluster 0 0 0 256 0 0 [], .fromCluster 0 0 0 0 256 0 [], .fromCluster 0 0 0 0 0 256 []] : List Instr).all (fun i => !i.wf) =
      true := by
  decide

theorem test_wf_requestEngine :
    ([.request 32 "" .nil [], .request 0 "" badFields [], .request 0 "" .nil [1, 1], .createResponseWaiter 4 0 "" .nil none,
      .createResponseWaiter 0 32 "" .nil none, .createResponseWaiter 0 0 "" badFields none,
      .frameReceived { versionFrame with length := 8 }, .frameReceived { versionFrame with checksum := 0 }] : List Instr).all
        (fun i => !i.wf) = true := by
  decide

theorem test_wf_wireFrames :
    ([.framePoll 1 0 0 [] 0, .frameSreq 1 0 0 [] 0, .frameAreq 1 0 0 [] 0, .frameSrsp 1 0 0 [] 0,
      .frameReservedType 0 1 0 0 [] 0] : List Instr).all (fun i => !i.wf) = true := by
  decide

/-! ## Decoding: every constructor, from a word written out from the tables of R79 and R86 -/

theorem test_decode_frameCodec :
    decode (.op .caller 0b00000000 [.num 1, .num 2, .num 3, .bytes [4]]) = .ok (.frameEncode 1 2 3 [4]) ∧
    decode (.op .transport 0b00000001 [.bytes [7]]) = .ok (.rxPush [7]) ∧
    decode (.op .caller 0b00000010 [.bytes [7]]) = .ok (.checksum [7]) := by
  decide

theorem test_decode_writes :
    decode (.op .caller 0b00100000 [.value (.int 5), .bytes [9]]) = .ok (.pwriteUint8 (.int 5) [9]) ∧
    decode (.op .caller 0b00100001 [.value (.int 5), .bytes [9]]) = .ok (.pwriteUint16 (.int 5) [9]) ∧
    decode (.op .caller 0b00100010 [.value (.int 5), .bytes [9]]) = .ok (.pwriteUint32 (.int 5) [9]) ∧
    decode (.op .caller 0b00100011 [.value (.int 5), .bytes [9]]) = .ok (.pwriteIeeeaddr (.int 5) [9]) ∧
    decode (.op .caller 0b00100100 [.value (.int 5), .bytes [9]]) = .ok (.pwriteBuffer (.int 5) [9]) ∧
    decode (.op .caller 0b00100101 [.value (.int 5), .bytes [9]]) = .ok (.pwriteBuffer8 (.int 5) [9]) ∧
    decode (.op .caller 0b00100110 [.value (.int 5), .bytes [9]]) = .ok (.pwriteBuffer16 (.int 5) [9]) ∧
    decode (.op .caller 0b00100111 [.value (.int 5), .bytes [9]]) = .ok (.pwriteBuffer18 (.int 5) [9]) ∧
    decode (.op .caller 0b00101000 [.value (.int 5), .bytes [9]]) = .ok (.pwriteBuffer32 (.int 5) [9]) ∧
    decode (.op .caller 0b00101001 [.value (.int 5), .bytes [9]]) = .ok (.pwriteBuffer42 (.int 5) [9]) ∧
    decode (.op .caller 0b00101010 [.value (.int 5), .bytes [9]]) = .ok (.pwriteBuffer100 (.int 5) [9]) ∧
    decode (.op .caller 0b00101011 [.value (.int 5), .bytes [9]]) = .ok (.pwriteListUint8 (.int 5) [9]) ∧
    decode (.op .caller 0b00101100 [.value (.int 5), .bytes [9]]) = .ok (.pwriteListUint16 (.int 5) [9]) ∧
    decode (.op .caller 0b00101101 [.value (.int 5), .bytes [9]]) = .ok (.pwriteListRoutingTable (.int 5) [9]) ∧
    decode (.op .caller 0b00101110 [.value (.int 5), .bytes [9]]) = .ok (.pwriteListBindTable (.int 5) [9]) ∧
    decode (.op .caller 0b00101111 [.value (.int 5), .bytes [9]]) = .ok (.pwriteListNeighborLqi (.int 5) [9]) ∧
    decode (.op .caller 0b00110000 [.value (.int 5), .bytes [9]]) = .ok (.pwriteListNetwork (.int 5) [9]) ∧
    decode (.op .caller 0b00110001 [.value (.int 5), .bytes [9]]) = .ok (.pwriteListAssocDev (.int 5) [9]) ∧
    decode (.op .caller 0b00110010 [.value (.int 5), .bytes [9]]) = .ok (.pwriteInt8 (.int 5) [9]) ∧
    decode (.op .caller 0b00110011 [.value (.int 5), .bytes [9]]) = .ok (.pwriteInt16 (.int 5) [9]) ∧
    decode (.op .caller 0b00110100 [.value (.int 5), .bytes [9]]) = .ok (.pwriteInt32 (.int 5) [9]) := by
  decide

theorem test_decode_reads :
    decode (.op .caller 0b01000000 [.opts noOpts, .bytes [9], .num 1]) = .ok (.preadUint8 noOpts [9] 1) ∧
    decode (.op .caller 0b01000001 [.opts noOpts, .bytes [9], .num 1]) = .ok (.preadUint16 noOpts [9] 1) ∧
    decode (.op .caller 0b01000010 [.opts noOpts, .bytes [9], .num 1]) = .ok (.preadUint32 noOpts [9] 1) ∧
    decode (.op .caller 0b01000011 [.opts noOpts, .bytes [9], .num 1]) = .ok (.preadIeeeaddr noOpts [9] 1) ∧
    decode (.op .caller 0b01000100 [.opts noOpts, .bytes [9], .num 1]) = .ok (.preadBuffer noOpts [9] 1) ∧
    decode (.op .caller 0b01000101 [.opts noOpts, .bytes [9], .num 1]) = .ok (.preadBuffer8 noOpts [9] 1) ∧
    decode (.op .caller 0b01000110 [.opts noOpts, .bytes [9], .num 1]) = .ok (.preadBuffer16 noOpts [9] 1) ∧
    decode (.op .caller 0b01000111 [.opts noOpts, .bytes [9], .num 1]) = .ok (.preadBuffer18 noOpts [9] 1) ∧
    decode (.op .caller 0b01001000 [.opts noOpts, .bytes [9], .num 1]) = .ok (.preadBuffer32 noOpts [9] 1) ∧
    decode (.op .caller 0b01001001 [.opts noOpts, .bytes [9], .num 1]) = .ok (.preadBuffer42 noOpts [9] 1) ∧
    decode (.op .caller 0b01001010 [.opts noOpts, .bytes [9], .num 1]) = .ok (.preadBuffer100 noOpts [9] 1) ∧
    decode (.op .caller 0b01001011 [.opts noOpts, .bytes [9], .num 1]) = .ok (.preadListUint8 noOpts [9] 1) ∧
    decode (.op .caller 0b01001100 [.opts noOpts, .bytes [9], .num 1]) = .ok (.preadListUint16 noOpts [9] 1) ∧
    decode (.op .caller 0b01001101 [.opts noOpts, .bytes [9], .num 1]) = .ok (.preadListRoutingTable noOpts [9] 1) ∧
    decode (.op .caller 0b01001110 [.opts noOpts, .bytes [9], .num 1]) = .ok (.preadListBindTable noOpts [9] 1) ∧
    decode (.op .caller 0b01001111 [.opts noOpts, .bytes [9], .num 1]) = .ok (.preadListNeighborLqi noOpts [9] 1) ∧
    decode (.op .caller 0b01010000 [.opts noOpts, .bytes [9], .num 1]) = .ok (.preadListNetwork noOpts [9] 1) ∧
    decode (.op .caller 0b01010001 [.opts noOpts, .bytes [9], .num 1]) = .ok (.preadListAssocDev noOpts [9] 1) ∧
    decode (.op .caller 0b01010010 [.opts noOpts, .bytes [9], .num 1]) = .ok (.preadInt8 noOpts [9] 1) ∧
    decode (.op .caller 0b01010011 [.opts noOpts, .bytes [9], .num 1]) = .ok (.preadInt16 noOpts [9] 1) ∧
    decode (.op .caller 0b01010100 [.opts noOpts, .bytes [9], .num 1]) = .ok (.preadInt32 noOpts [9] 1) := by
  decide

theorem test_decode_commandObject :
    decode (.op .caller 0b01100000 [.frame versionFrame]) = .ok (.fromFrame versionFrame) ∧
    decode (.op .caller 0b01100001 [.object zeroObject]) = .ok (.toFrame zeroObject) ∧
    decode (.op .caller 0b01100010 [.num 1, .name "n", .payload .nil]) = .ok (.fromCommand 1 "n" .nil) ∧
    decode (.op .caller 0b01100011 [.num 1, .num 2, .num 3, .num 4, .num 5, .num 6, .bytes [7]]) = .ok (.fromCluster 1 2 3 4 5 6 [7]) ∧
    decode (.op .caller 0b01100100 [.object zeroObject]) = .ok (.isResetCommand zeroObject) ∧
    decode (.op .caller 0b01100101 [.num 1, .num 2]) = .ok (.lookupById 1 2) ∧
    decode (.op .caller 0b01100110 [.num 1, .name "n"]) = .ok (.lookupByName 1 "n") := by
  decide

theorem test_decode_requestEngine :
    decode (.op .caller 0b10000000 [.num 1, .name "n", .payload .nil, .ints [0]]) = .ok (.request 1 "n" .nil [0]) ∧
    decode (.op .caller 0b10000001 [.num 2, .num 4, .name "n", .payload .nil, .optNum (some 9)]) =
      .ok (.createResponseWaiter 2 4 "n" .nil (some 9)) ∧
    decode (.op .caller 0b10000010 [.num 6]) = .ok (.await 6) ∧
    decode (.op .caller 0b10000011 [.num 6]) = .ok (.cancelRequest 6) ∧
    decode (.op .caller 0b10000100 [.num 6]) = .ok (.cancelWaiter 6) ∧
    decode (.op .clock 0b10000101 [.num 6]) = .ok (.tick 6) ∧
    decode (.op .transport 0b10000110 []) = .ok .disconnect ∧
    decode (.op .block 0b11100000 [.frame nodeFrame]) = .ok (.frameReceived nodeFrame) ∧
    decode (.op .block 0b11100001 []) = .ok .gateGrant := by
  decide

theorem test_decode_wireFrames :
    decode (.wire [0xFE, 0x01, 0b00000010, 0x03, 0x04, 0x05]) = .ok (.framePoll 1 2 3 [4] 5) ∧
    decode (.wire [0xFE, 0x01, 0b00100010, 0x03, 0x04, 0x05]) = .ok (.frameSreq 1 2 3 [4] 5) ∧
    decode (.wire [0xFE, 0x01, 0b01000010, 0x03, 0x04, 0x05]) = .ok (.frameAreq 1 2 3 [4] 5) ∧
    decode (.wire [0xFE, 0x01, 0b01100010, 0x03, 0x04, 0x05]) = .ok (.frameSrsp 1 2 3 [4] 5) ∧
    decode (.wire [0xFE, 0x01, 0b11000010, 0x03, 0x04, 0x05]) = .ok (.frameReservedType 2 1 2 3 [4] 5) := by
  decide

/-- A chunk that is no whole frame, one byte short or long, or without the marker, is an RX_PUSH (R103). -/
theorem test_decode_chunks :
    decode (.wire [0xFE, 0x01, 0x02, 0x03, 0x04]) = .ok (.rxPush [0xFE, 0x01, 0x02, 0x03, 0x04]) ∧
    decode (.wire [0xFE, 0x00, 0x02, 0x03, 0x04, 0x05]) = .ok (.rxPush [0xFE, 0x00, 0x02, 0x03, 0x04, 0x05]) ∧
    decode (.wire [0x00, 0x00, 0x02, 0x03, 0x04]) = .ok (.rxPush [0x00, 0x00, 0x02, 0x03, 0x04]) := by
  decide

/-- Vectors RE-27 and RE-28: words that are no instruction. -/
theorem test_decode_rejects :
    decode (.op .caller 0xE0 [.frame nodeFrame]) = .error (.internalWord 0xE0) ∧
    ([0x03, 0x67, 0x87, 0xA0, 0xC0, 0xE2] : List Byte).all
      (fun op => decide (decode (.op .caller op []) = .error (.illegalWord op))) = true ∧
    decode (.op .caller 0x35 [.value (.int 0), .bytes []]) = .error (.tagWithoutRule 21) ∧
    decode (.op .caller 0x5F [.opts noOpts, .bytes [], .num 0]) = .error (.tagWithoutRule 31) := by
  decide

theorem test_table_words :
    decodeTableWord 8 0x2E = some (.pwriteListBindTable (.int 0) []) ∧ decodeTableWord 8 0xE1 = some .gateGrant ∧
    decodeTableWord 32 0xFE032102 = some (.frameSreq 3 1 2 [0, 0, 0] 0) ∧ decodeTableWord 8 0x03 = none := by
  decide

/-- A table word presented after reset is what the next step runs. -/
theorem test_fetch_word_runs :
    (match step (State.reset.withFetchWord 8 0x85) with
      | .next t => t.ret
      | .fault _ => []
      | .refused _ => []) = [.ok .none] := by
  decide

/-! ## Frame Codec -/

/-- Vector FC-5. -/
theorem test_frameEncode_srsp :
    answered (.frameEncode 3 1 2 [0x02, 0x00, 0x02, 0x06, 0x03, 0x90, 0x15, 0x34, 0x01]) = [.ok (.bytes versionBytes)] := by decide

/-- Vectors FC-8 and FC-9d. -/
theorem test_frameEncode_corners :
    answered (.frameEncode 1 0x21 2 []) = [.ok (.bytes [0xFE, 0x00, 0x21, 0x02, 0x23])] ∧
    answered (.frameEncode 4 1 2 []) = [.err (.reservedCommandType 4)] := by
  decide

/-- Vectors FC-12 and FC-13: a frame with bytes behind it, and the strict threshold. -/
theorem test_rxPush_keeps_rest :
    (after (.rxPush (versionBytes ++ [0xFE, 0x01])) s0).rxbuf = [0xFE, 0x01] ∧
    (after (.rxPush (versionBytes ++ [0xFE, 0x01])) s0).evt = [.unsolicited versionObject] ∧
    (after (.rxPush [0xFE, 0x00, 0x46, 0x09, 0x4F]) s0).rxbuf = [0xFE, 0x00, 0x46, 0x09, 0x4F] := by
  decide

/-- Vectors FC-17 and FC-19: resynchronisation by scan, and a bad checksum. -/
theorem test_rxPush_noise_and_checksum :
    (after (.rxPush [0x00, 0xFE, 0x00, 0x46, 0x09, 0x4F, 0x00]) (blockOf { cfg0 with resyncMode := .scanForward })).rxbuf = [0x00] ∧
    (after (.rxPush [0xFE, 0x00, 0x21, 0x02, 0x24, 0xFE]) s0).evt = [.rxError .checksumMismatch (.checksums 0x23 0x24)] := by
  decide

/-- The source's vector S1, and FC-3. -/
theorem test_checksum :
    answered (.checksum [0x07, 0x01, 0x00, 0x08, 0x00, 0xAA, 0x00, 0x02]) = [.ok (.byte 166)] ∧
    answered (.checksum [0xFE, 0x00, 0x21, 0x02]) = [.ok (.byte 0xDD)] := by
  decide

/-! ## Parameter Codec -/

/-- Vectors PC-1 to PC-6. -/
theorem test_uint8 :
    answered (.pwriteUint8 (.int 2) []) = [.ok (.bytes [0x02])] ∧
    answered (.pwriteUint8 (.int 256) []) = [.err (.valueOutOfRange 8 false 256)] ∧
    answered (.pwriteUint8 (.nwk 1) []) = [.err (.schemaError (.wrongKind 0))] ∧
    answered (.preadUint8 noOpts [0xFF] 0) = [.ok (.read (.int 255) 1)] ∧
    answered (.preadUint8 noOpts [] 0) = [.err (.bufferUnderrun 0 1)] := by
  decide

/-- Vectors PC-7 to PC-12. -/
theorem test_uint16 :
    answered (.pwriteUint16 (.nwk 0xE961) []) = [.ok (.bytes [0x61, 0xE9])] ∧
    answered (.pwriteUint16 (.int 0x10000) []) = [.err (.valueOutOfRange 16 false 0x10000)] ∧
    answered (.preadUint16 ⟨none, none, true⟩ [0x61, 0xE9] 0) = [.ok (.read (.nwk 0xE961) 2)] ∧
    answered (.preadUint16 noOpts [0x61, 0xE9] 0) = [.ok (.read (.int 0xE961) 2)] ∧
    answered (.preadUint16 noOpts [0x61] 0) = [.err (.bufferUnderrun 0 2)] := by
  decide

/-- Vectors PC-13 to PC-15. -/
theorem test_uint32 :
    answered (.pwriteUint32 (.int 20190608) []) = [.ok (.bytes [0x90, 0x15, 0x34, 0x01])] ∧
    answered (.preadUint32 noOpts [0xFF, 0xFF, 0xFF, 0xFF] 0) = [.ok (.read (.int 4294967295) 4)] ∧
    answered (.preadUint32 noOpts [0x90, 0x15, 0x34] 0) = [.err (.bufferUnderrun 0 4)] := by
  decide

/-- The source's vector S3, and PC-18. -/
theorem test_ieeeaddr :
    answered (.pwriteIeeeaddr (.eui ieee) []) = [.ok (.bytes [0x00, 0x12, 0x4B, 0x00, 0x12, 0x01, 0x44, 0xAE])] ∧
    answered (.preadIeeeaddr noOpts [0x00, 0x12, 0x4B, 0x00, 0x12, 0x01, 0x44, 0xAE] 0) = [.ok (.read (.eui ieee) 8)] ∧
    answered (.pwriteIeeeaddr (.int 5) []) = [.err (.schemaError (.wrongKind 3))] := by
  decide

/-- Vectors PC-19 to PC-24. -/
theorem test_buffer :
    answered (.pwriteBuffer (.bytes [1, 2, 3]) []) = [.ok (.bytes [1, 2, 3])] ∧
    answered (.preadBuffer (withLength 3) [1, 2, 3, 4] 0) = [.ok (.read (.bytes [1, 2, 3]) 3)] ∧
    answered (.preadBuffer (withLength 0) [1] 0) = [.ok (.read (.bytes []) 0)] ∧
    answered (.preadBuffer noOpts [] 0) = [.err (.schemaError (.missingLength 4))] ∧
    answered (.preadBuffer (withLength 5) [1, 2, 3, 4] 0) = [.err (.bufferUnderrun 0 5)] := by
  decide

/-- Vectors PC-26 and PC-27. -/
theorem test_buffer8 :
    answered (.pwriteBuffer8 (.bytes [0, 1, 2]) []) = [.ok (.bytes [0, 1, 2])] ∧
    answered (.preadBuffer8 (withLength 2) (ramp 10) 0) = [.ok (.read (.bytes (ramp 8)) 8)] := by
  decide

/-- R152, R153: 16 bytes, and one byte too few. -/
theorem test_buffer16 :
    answered (.pwriteBuffer16 (.bytes (ramp 16)) []) = [.ok (.bytes (ramp 16))] ∧
    answered (.preadBuffer16 noOpts (ramp 17) 0) = [.ok (.read (.bytes (ramp 16)) 16)] ∧
    answered (.preadBuffer16 noOpts (ramp 15) 0) = [.err (.bufferUnderrun 0 16)] := by
  decide

/-- R154, R155: 18 bytes, and one byte too few. -/
theorem test_buffer18 :
    answered (.pwriteBuffer18 (.bytes (ramp 18)) []) = [.ok (.bytes (ramp 18))] ∧
    answered (.preadBuffer18 noOpts (ramp 19) 0) = [.ok (.read (.bytes (ramp 18)) 18)] ∧
    answered (.preadBuffer18 noOpts (ramp 17) 0) = [.err (.bufferUnderrun 0 18)] := by
  decide

/-- R156, R157: 32 bytes, and one byte too few. -/
theorem test_buffer32 :
    answered (.pwriteBuffer32 (.bytes (ramp 32)) []) = [.ok (.bytes (ramp 32))] ∧
    answered (.preadBuffer32 noOpts (ramp 33) 0) = [.ok (.read (.bytes (ramp 32)) 32)] ∧
    answered (.preadBuffer32 noOpts (ramp 31) 0) = [.err (.bufferUnderrun 0 32)] := by
  decide

/-- R158, R159: 42 bytes, and one byte too few. -/
theorem test_buffer42 :
    answered (.pwriteBuffer42 (.bytes (ramp 42)) []) = [.ok (.bytes (ramp 42))] ∧
    answered (.preadBuffer42 noOpts (ramp 43) 0) = [.ok (.read (.bytes (ramp 42)) 42)] ∧
    answered (.preadBuffer42 noOpts (ramp 41) 0) = [.err (.bufferUnderrun 0 42)] := by
  decide

/-- R160, R161: 100 bytes, and one byte too few. -/
theorem test_buffer100 :
    answered (.pwriteBuffer100 (.bytes (ramp 100)) []) = [.ok (.bytes (ramp 100))] ∧
    answered (.preadBuffer100 noOpts (ramp 101) 0) = [.ok (.read (.bytes (ramp 100)) 100)] ∧
    answered (.preadBuffer100 noOpts (ramp 99) 0) = [.err (.bufferUnderrun 0 100)] := by
  decide

/-- Vectors PC-30 to PC-33. -/
theorem test_listUint8 :
    answered (.pwriteListUint8 (.list (Values.ofList [.int 1, .int 2])) []) = [.ok (.bytes [1, 2])] ∧
    answered (.pwriteListUint8 (.list (Values.ofList [.int 1, .int 300])) []) = [.err (.valueOutOfRange 8 false 300)] ∧
    answered (.preadListUint8 (withLength 2) [1, 2, 3] 0) = [.ok (.read (.list (Values.ofList [.int 1, .int 2])) 2)] ∧
    answered (.preadListUint8 (withLength 4) [1, 2, 3] 0) = [.err (.bufferUnderrun 3 1)] := by
  decide

/-- Vectors PC-34 and PC-35. -/
theorem test_listUint16 :
    answered (.pwriteListUint16 (.list (Values.ofList [.int 0x1234, .nwk 1])) []) = [.ok (.bytes [0x34, 0x12, 0x01, 0x00])] ∧
    answered (.preadListUint16 (withLength 2) [0x34, 0x12, 0x01, 0x00] 0) = [.ok (.read (.list (Values.ofList [.int 0x1234, .int 1])) 4)] := by
  decide

/-- Vector PC-36 and the example of R167. -/
theorem test_listRoutingTable :
    answered (.pwriteListRoutingTable (.list (Values.ofList [.record (Fields.ofList [("destNwkAddr", .int 0x1234), ("routeStatus", .int 0), ("nextHopNwkAddr", .int 0)])])) []) = [.ok (.bytes [0x34, 0x12, 0, 0, 0])] ∧
    answered (.preadListRoutingTable (withLength 1) [0x34, 0x12, 0, 0, 0] 0) = [.ok (.read (.list (Values.ofList [.record (Fields.ofList [("destNwkAddr", .int 0x1234), ("routeStatus", .int 0), ("nextHopNwkAddr", .int 0)])])) 5)] := by
  decide

/-- Vectors PC-37 and PC-38, and the example of R169. -/
theorem test_listBindTable :
    answered (.pwriteListBindTable (.list (Values.ofList [.record (Fields.ofList [("srcAddr", .eui ⟨0, 0, 0, 0, 0, 0, 0, 1⟩), ("srcEp", .int 1), ("clusterId", .int 6), ("dstAddrMode", .int 3), ("dstAddr", .eui ⟨0, 0, 0, 0, 0, 0, 0, 2⟩), ("dstEp", .int 1)])])) []) = [.ok (.bytes [1, 0, 0, 0, 0, 0, 0, 0, 1, 6, 0, 3, 2, 0, 0, 0, 0, 0, 0, 0, 1])] ∧
    answered (.pwriteListBindTable (.list (Values.ofList [.record (Fields.ofList [("srcAddr", .eui ⟨0, 0, 0, 0, 0, 0, 0, 1⟩), ("srcEp", .int 1), ("clusterId", .int 6), ("dstAddrMode", .int 3), ("dstAddr", .eui ⟨0, 0, 0, 0, 0, 0, 0, 2⟩)])])) []) = [.err (.schemaError (.missingField "dstEp"))] ∧
    answered (.preadListBindTable (withLength 1) [1, 0, 0, 0, 0, 0, 0, 0, 1, 6, 0, 3, 2, 0, 0, 0, 0, 0, 0, 0, 1] 0) = [.ok (.read (.list (Values.ofList [.record (Fields.ofList [("srcAddr", .eui ⟨0, 0, 0, 0, 0, 0, 0, 1⟩), ("srcEp", .int 1), ("clusterId", .int 6), ("dstAddrMode", .int 3), ("dstAddr", .eui ⟨0, 0, 0, 0, 0, 0, 0, 2⟩), ("dstEp", .int 1)])])) 21)] := by
  decide

/-- Vectors PC-39 to PC-41. -/
theorem test_listNetwork :
    answered (.pwriteListNetwork (.list (Values.ofList [.record (Fields.ofList [("neightborPanId", .int 0x1A62), ("logicalChannel", .int 11), ("stackProfile", .int 2), ("zigbeeVersion", .int 2), ("beaconOrder", .int 15), ("superFrameOrder", .int 15), ("permitJoin", .int 0)])])) []) = [.ok (.bytes [0x62, 0x1A, 0x0B, 0x22, 0xFF, 0x00])] ∧
    answered (.pwriteListNetwork (.list (Values.ofList [.record (Fields.ofList [("neightborPanId", .int 0x1A62), ("logicalChannel", .int 11), ("stackProfile", .int 2), ("zigbeeVersion", .int 2), ("beaconOrder", .int 16), ("superFrameOrder", .int 15), ("permitJoin", .int 0)])])) []) = [.err (.valueOutOfRange 4 false 16)] ∧
    answered (.preadListNetwork (withLength 1) [0x62, 0x1A, 0x0B, 0x22, 0xFF, 0x00] 0) = [.ok (.read (.list (Values.ofList [.record (Fields.ofList [("neightborPanId", .int 0x1A62), ("logicalChannel", .int 11), ("stackProfile", .int 2), ("zigbeeVersion", .int 2), ("beaconOrder", .int 15), ("superFrameOrder", .int 15), ("permitJoin", .int 0)])])) 6)] := by
  decide

/-- The source's vector S5 on one conforming layout: 23 bytes, which read back as the record. -/
theorem test_listNeighborLqi :
    (match answered (.pwriteListNeighborLqi (.list (.cons (neighbor ieee ieee) .nil)) []) with
      | [.ok (.bytes b)] =>
        decide (b.length = 23 ∧
          answered (.preadListNeighborLqi (withLength 1) b 0) = [.ok (.read (.list (.cons (neighbor ieee ieee) .nil)) 23)])
      | _ => false) = true := by
  decide

/-- Vectors PC-43 to PC-46. -/
theorem test_listAssocDev :
    answered (.pwriteListAssocDev (.list (Values.ofList [.int 1, .int 2])) []) = [.ok (.bytes [1, 0, 2, 0])] ∧
    answered (.preadListAssocDev ⟨some 3, some 1, false⟩ [1, 0, 2, 0] 0) = [.ok (.read (.list (Values.ofList [.int 1, .int 2])) 4)] ∧
    answered (.preadListAssocDev ⟨some 3, some 3, false⟩ [1, 0] 0) = [.ok (.read (.list .nil) 0)] ∧
    answered (.preadListAssocDev (withLength 3) [] 0) = [.err (.schemaError (.missingLength 17))] := by
  decide

/-- Vectors PC-47 to PC-50. -/
theorem test_int8 :
    answered (.pwriteInt8 (.int (-1)) []) = [.ok (.bytes [0xFF])] ∧
    answered (.pwriteInt8 (.int 128) []) = [.err (.valueOutOfRange 8 true 128)] ∧
    answered (.preadInt8 noOpts [0x80] 0) = [.ok (.read (.int (-128)) 1)] := by
  decide

/-- Vectors PC-51 and PC-52. -/
theorem test_int16 :
    answered (.pwriteInt16 (.int (-2)) []) = [.ok (.bytes [0xFE, 0xFF])] ∧
    answered (.preadInt16 ⟨none, none, true⟩ [0x00, 0x80] 0) = [.ok (.read (.int (-32768)) 2)] := by
  decide

/-- Vectors PC-53 and PC-54. -/
theorem test_int32 :
    answered (.pwriteInt32 (.int (-1)) []) = [.ok (.bytes [0xFF, 0xFF, 0xFF, 0xFF])] ∧
    answered (.preadInt32 noOpts [0x00, 0x00, 0x00, 0x80] 0) = [.ok (.read (.int (-2147483648)) 4)] := by
  decide

/-! ## Command Table and Command Object -/

/-- Vectors CO-1 to CO-3. -/
theorem test_lookups :
    answered (.lookupById 1 2) = [.ok (.spec CommandSpec.version)] ∧
    answered (.lookupById 5 3) = [.err (.unknownCommand (.byId 5 3))] ∧
    answered (.lookupByName 1 "version") = [.ok (.spec CommandSpec.version)] ∧
    answered (.lookupByName 1 "Version") = [.err (.unknownCommand (.byName 1 "Version"))] := by
  decide

/-- Vectors CO-4 and CO-7. -/
theorem test_fromFrame :
    answered (.fromFrame versionFrame) = [.ok (.object versionObject)] ∧
    answered (.fromFrame { versionFrame with payload := versionFrame.payload ++ [0xAA, 0xBB] }) = [.ok (.object versionObject)] := by
  decide

/-- Vectors CO-8 and CO-11. -/
theorem test_toFrame :
    answered (.toFrame versionObject) = [.ok (.frame versionFrame)] ∧
    answered (.toFrame { resetRequest with payload := .nil }) = [.err (.schemaError (.missingField "type"))] := by
  decide

/-- Vectors CO-9 and CO-10. -/
theorem test_fromCommand :
    answered (.fromCommand 1 "version" .nil) = [.ok (.object versionRequest)] ∧
    answered (.fromCommand 1 "nosuch" .nil) = [.err (.unknownCommand (.byName 1 "nosuch"))] := by
  decide

/-- Vector CO-14: the payload that TO_FRAME gives. -/
theorem test_fromCluster_data :
    (match answered (.fromCluster 0x1234 0x0104 6 1 1 7 [1, 7, 1]) with
      | [.ok (.object o)] => (o.correlationTag, (toFrame cfg0 o).map (·.payload))
      | _ => (none, .ok [])) =
      (some 7, .ok [0x34, 0x12, 0x01, 0x01, 0x06, 0x00, 0x07, 0x00, 0x1E, 0x03, 0x01, 0x07, 0x01]) := by
  decide

/-- A start index, a count and the list that they give its element count (R139, R205). -/
def assocSchema : Schema := [.plain "startindex" 0, .plain "count" 0, .plain "assocdevlist" 17]

/-- A buffer that names its length source, another field standing between. -/
def namedSchema : Schema := [.plain "len" 0, .plain "kind" 0, ⟨"data", 4, some "len", false⟩]

/-- Vector CO-14 read back: the buffer takes its length from the field before it. -/
theorem test_readSchema_buffer :
    readSchema cfg0 CommandSpec.dataRequest.requestSchema [0x34, 0x12, 0x01, 0x01, 0x06, 0x00, 0x07, 0x00, 0x1E, 0x03, 0x01, 0x07, 0x01] =
      .ok (dataRequestPayload cfg0 0x1234 6 1 1 7 [1, 7, 1]) ∧
    (readSchema cfg0 namedSchema [0x02, 0x09, 0x0A, 0x0B, 0x0C]).map (fun m => m.get? "data") = .ok (some (.bytes [0x0A, 0x0B])) := by
  decide

/-- Vectors PC-44 and PC-46 as the last field of a schema, and R205's BadReference. -/
theorem test_readSchema_list :
    (readSchema cfg0 assocSchema [0x01, 0x03, 0x01, 0x00, 0x02, 0x00]).map (fun m => m.get? "assocdevlist") =
      .ok (some (.list (.cons (.int 1) (.cons (.int 2) .nil)))) ∧
    readSchema cfg0 [.plain "count" 0, .plain "assocdevlist" 17] [0x00] = .error (.schemaError (.missingLength 17)) ∧
    readSchema cfg0 [⟨"data", 4, some "len", false⟩, .plain "len" 0] [0x00] = .error (.schemaError (.badReference "data")) := by
  decide

/-- Vectors CO-15 and CO-17. -/
theorem test_fromCluster_discovery :
    answered (.fromCluster 0 0 2 0 0 1 [0x34, 0x12]) =
      [.ok (.object ⟨.sreq, 5, "nodeDescReq", 2, .cons "dstaddr" (.nwk 0) (.cons "nwkaddrofinterest" (.nwk 0x1234) .nil),
        CommandSpec.nodeDescReq.requestSchema, some 1⟩)] ∧
    answered (.fromCluster 0 0 0x0102 0 0 1 []) = [.err (.unknownCommand (.byId 5 0x0102))] := by
  decide

/-- Vectors CO-18, CO-19 and CO-21. -/
theorem test_isReset :
    answered (.isResetCommand resetRequest) = [.ok (.bool true)] ∧
    answered (.isResetCommand ⟨.areq, 6, "systemReset", 9, .nil, [], none⟩) = [.ok (.bool true)] ∧
    answered (.isResetCommand versionRequest) = [.ok (.bool false)] := by
  decide

/-! ## Request Engine -/

/-- Vector RE-1. -/
theorem test_request_sreq :
    requested.tx = [[0xFE, 0x00, 0x21, 0x02, 0x23]] ∧ requested.gate = .held 0 ∧
    requested.waiters = [⟨0, .srsp, 1, "version", .nil, 6000, .req 0⟩] := by
  decide

/-- Vectors RE-4 and RE-6. -/
theorem test_request_areq :
    resetting.tx = [[0xFE, 0x01, 0x41, 0x00, 0x01, 0x41]] ∧ resetting.waiters = [⟨0, .areq, 1, "resetInd", .nil, 30000, .req 0⟩] ∧
    (after (.request 7 "ping" .nil [0]) sPing).tx = [[0xFE, 0x00, 0x47, 0x10, 0x57]] ∧
    (after (.request 7 "ping" .nil [0]) sPing).done = [⟨.req 0, .okNone⟩] := by
  decide

/-- Vectors RE-2 and RE-7: a frame fulfils a request's waiter, or a caller's. -/
theorem test_frameReceived :
    (after (.frameReceived versionFrame) requested).done = [⟨.req 0, .ok versionObject⟩] ∧
    (after (.frameReceived versionFrame) requested).gate = .free ∧
    (after (.frameReceived nodeFrame) waiting).slots = [(0, ⟨.fulfilled nodeObject, false⟩)] := by
  decide

/-- Vector FC-28 and RE-8: a frame that is unknown, and one that differs in its type. -/
theorem test_frameReceived_no_match :
    (after (.frameReceived ⟨2, 31, 0x55, [], 0, 0x0A⟩) s0).evt = [.rxError .unknownCommand (.frame 31 0x55 2)] ∧
    (after (.frameReceived ⟨2, 5, 2, [0, 0, 0x34, 0x12], 4, 0x65⟩) waiting).waiters = waiting.waiters := by
  decide

theorem test_createResponseWaiter :
    (after (.createResponseWaiter 2 4 "dataConfirm" (.cons "transid" (.int 7) .nil) none) s0).waiters =
      [⟨0, .areq, 4, "dataConfirm", .cons "transid" (.int 7) .nil, 10000, .caller⟩] := by
  decide

/-- Vectors RE-12, RE-15 and RE-16. -/
theorem test_await :
    (after (.await 0) lapsed).ret = [.ok (.wid 0), .ok .none, .err (.requestTimeout 5 "nodeDescReq")] ∧
    (after (.await 0) requested).ret = [.ok (.rid 0), .err (.badHandle 0)] ∧
    (after (.await 0) awaiting).ret = [.ok (.wid 0), .hold 0, .err (.badHandle 0)] := by
  decide

/-- Vectors RE-18 and RE-21. -/
theorem test_cancelRequest :
    (after (.cancelRequest 0) requested).done = [⟨.req 0, .err .cancelled⟩] ∧ (after (.cancelRequest 0) requested).gate = .free ∧
    (after (.cancelRequest 1) queued).gateQueue = [] ∧ (after (.cancelRequest 1) queued).gate = .held 0 := by
  decide

/-- Vector RE-17. -/
theorem test_cancelWaiter :
    (after (.cancelWaiter 0) waiting).slots = [(0, ⟨.cancelled, false⟩)] ∧
    (after (.cancelWaiter 0) awaiting).done = [⟨.waiter 0, .err .cancelled⟩] := by
  decide

/-- Vector RE-12: the deadline is inclusive. -/
theorem test_tick :
    (after (.tick 99) waiting).waiters = waiting.waiters ∧
    (after (.tick 100) waiting).slots = [(0, ⟨.timedOut 5 "nodeDescReq", false⟩)] ∧
    (after (.tick 6000) requested).done = [⟨.req 0, .err (.requestTimeout 1 "version")⟩] := by
  decide

/-- Vectors RE-22 and RE-23. -/
theorem test_disconnect :
    (after .disconnect requested).waiters = requested.waiters ∧
    (after .disconnect { requested with config := { cfg0 with failOnDisconnect := true } }).done = [⟨.req 0, .err .disconnected⟩] := by
  decide

theorem test_gateGrant :
    (after .gateGrant { queued with gate := .free }).gate = .held 1 ∧ (after .gateGrant { queued with gate := .free }).gateQueue = [] ∧
    (after .gateGrant queued).gateQueue = [1] := by
  decide

/-! ## Wire frames -/

/-- Vector FC-14 by its row, and FC-29: a reserved type. -/
theorem test_wireFrames :
    (after (.frameSrsp 9 1 2 versionFrame.payload 0xDF) requested).done = [⟨.req 0, .ok versionObject⟩] ∧
    (after (.frameAreq 0 6 9 [] 0x4F) s0).rxbuf = [0xFE, 0x00, 0x46, 0x09, 0x4F] ∧
    (after (.frameReservedType 0 1 1 2 [0] 0x82) s0).evt = [.rxError .reservedCommandType (.frame 1 2 4)] := by
  decide

/-- A POLL frame and an SREQ frame use the request schema (R207). -/
theorem test_wireFrames_request_schema :
    (after (.framePoll 1 1 2 [0] 0x02) s0).evt = [.unsolicited ⟨.poll, 1, "version", 2, .nil, [], none⟩] ∧
    (after (.frameSreq 1 1 2 [0] 0x22) s0).evt = [.unsolicited versionRequest] := by
  decide

/-! ## The textual syntax (R84, R85) -/

theorem test_asm :
    Asm.text s0 (.pwriteIeeeaddr (.eui ieee) []) = some "pwrite.ieeeaddr eui:ae:44:01:12:00:4b:12:00 -> w" ∧
    Asm.text s0 (.preadListAssocDev ⟨some 3, some 1, false⟩ [] 0) = some "pread.list_assoc_dev length=3 start_index=1 @0" ∧
    Asm.expandLast 0 0 (after (.cancelRequest 0) requested) = some (.cancelWaiter 0) := by
  decide

/-! ## Witnesses: the hypotheses of each statement can be met, clause by clause, at the ends of their ranges -/

theorem witness_DecodeEncodeAgree :
    Instr.WellFormed (.frameEncode 7 255 255 [0xFE]) ∧ Instr.WellFormed (.createResponseWaiter 3 31 "n" versionPayload (some 0)) ∧
    Instr.WellFormed (.frameReservedType 3 1 31 255 [0xFE] 0) := by
  decide

theorem witness_EncodeDecodeAgree :
    decode (.op .caller 0x85 [.num 0]) = .ok (.tick 0) ∧ decode (.wire [1]) = .ok (.rxPush [1]) ∧
    decode (.wire [0xFE, 0x00, 0xE0, 0x00, 0x00]) = .ok (.frameReservedType 3 0 0 0 [] 0) := by
  decide

theorem witness_IllegalWordsChangeNothing :
    ([0x03, 0x1F, 0x67, 0x7F, 0x87, 0x9F, 0xA0, 0xDF, 0xE2, 0xFF] : List Byte).all (fun op => !definedWord op) = true ∧
    Agent.caller ≠ Agent.block ∧ 0x20 ≤ (0x20 : Byte).toNat ∧ (0x5F : Byte).toNat < 0x60 := by
  decide

theorem witness_TagsWithoutRule :
    ([0x35, 0x3F] : List Byte).all (fun op => decide (0x20 ≤ op.toNat ∧ op.toNat < 0x40 ∧ 21 ≤ op.toNat % 32)) = true ∧
    ([0x55, 0x5F] : List Byte).all (fun op => decide (0x40 ≤ op.toNat ∧ op.toNat < 0x60 ∧ 21 ≤ op.toNat % 32)) = true ∧
    (Value.int 0).wf = true ∧ 21 ≤ 21 := by
  decide

theorem witness_StepRunsDecodedInstruction :
    ((withPort [encode (.tick 0)] s0).port = [encode (.tick 0)] ∧ decode (encode (.tick 0)) = .ok (.tick 0) ∧
      Instr.WellFormed (.tick 0)) ∧
    (({ queued with gate := .free } : State).port = [] ∧ ({ queued with gate := .free } : State).gate = .free ∧
      ({ queued with gate := .free } : State).gateQueue ≠ []) ∧
    (queued.port = [] ∧ queued.gate ≠ .free) ∧ (s0.port = [] ∧ s0.gateQueue = []) := by
  decide

theorem witness_FrameEncodeBuildsFrame :
    (3 ≤ 3 ∧ 255 ≤ 255 ∧ (List.replicate 255 (0 : Byte)).length ≤ 255) ∧ (3 < 4 ∧ 7 ≤ 7) ∧
    255 < (List.replicate 256 (0 : Byte)).length ∧ (7 < 8 ∧ 255 < 256) :=
  ⟨⟨by decide, by decide, List.length_replicate.le⟩, by decide, by rw [List.length_replicate]; decide, by decide⟩

theorem witness_PartialFramesWait :
    (chunkFits s0 [0xFE, 0, 0x46, 9, 0x4F] ∧ (s0.rxbuf ++ [0xFE, 0, 0x46, 9, 0x4F]).head? = some 0xFE ∧
      (s0.rxbuf ++ [0xFE, 0, 0x46, 9, 0x4F]).length ≤ s0.config.minFrameLen) ∧
    (chunkFits s0 [0xFE, 2, 0x46, 9, 0, 0] ∧
      ∃ l ∈ (s0.rxbuf ++ [0xFE, 2, 0x46, 9, 0, 0])[1]?, (s0.rxbuf ++ [0xFE, 2, 0x46, 9, 0, 0]).length < 5 + l.toNat) := by
  decide

theorem witness_WholeFrameIsExtracted :
    chunkFits s0 [0xFE, 0, 0x46, 9, 0x4F, 7] ∧ s0.rxbuf ++ [0xFE, 0, 0x46, 9, 0x4F, 7] = [0xFE, 0, 0x46, 9] ++ [] ++ [0x4F] ++ [7] ∧
    ([] : List Byte).length = (0 : Byte).toNat ∧ s0.config.minFrameLen < (s0.rxbuf ++ [0xFE, 0, 0x46, 9, 0x4F, 7]).length := by
  decide

theorem witness_ResynchronisationDropsNoise :
    (s0.config.resyncMode = .discardAll ∧ chunkFits s0 [0] ∧ (s0.rxbuf ++ [0]).head? = some 0 ∧ (0 : Byte) ≠ 0xFE) ∧
    ((blockOf { cfg0 with resyncMode := .scanForward }).config.resyncMode = .scanForward ∧
      (blockOf { cfg0 with resyncMode := .scanForward }).rxbuf ++ [0, 0xFE] = [0] ++ 0xFE :: [] ∧ ([0] : List Byte) ≠ [] ∧
      (∀ b ∈ ([0] : List Byte), b ≠ 0xFE)) ∧
    (∀ b ∈ (blockOf { cfg0 with resyncMode := .scanForward }).rxbuf ++ [], b ≠ 0xFE) := by
  decide

theorem witness_OverflowRefusesChunk :
    ((blockOf { cfg0 with rxbufCap := some 4 }).config.rxbufCap = some 4 ∧
      4 < (blockOf { cfg0 with rxbufCap := some 4 }).rxbuf.length + [0xFE, 0, 0x21, 2, (0x23 : Byte)].length) ∧ s0.rxbuf = [] := by
  decide

theorem witness_FrameRoundTripThroughChunks :
    (nodeFrame.valid = true ∧ nodeFrame.commandType.toNat ≤ 3 ∧ encodeFrame nodeFrame = .ok [0xFE, 1, 0x65, 2, 0, 0x66] ∧ s0.rxbuf = [] ∧
      s0.config.minFrameLen = 5 ∧ (∀ c ∈ s0.config.rxbufCap, 6 + 0 ≤ c) ∧
      [0xFE, 1, 0x65, 2, 0, 0x66] = ([0xFE] : List Byte) ++ [1, 0x65, 2, 0, 0x66]) ∧
    ((⟨2, 6, 9, [], 0, 0x4F⟩ : Frame).valid = true ∧ encodeFrame ⟨2, 6, 9, [], 0, 0x4F⟩ = .ok [0xFE, 0, 0x46, 9, 0x4F] ∧
      ([0] : List Byte) ≠ [] ∧ [0xFE, 0, 0x46, 9, 0x4F] = ([] : List Byte) ++ [0xFE, 0, 0x46, 9, 0x4F]) := by
  decide

theorem witness_WireFramesAreReceived :
    ([0] : List Byte).length = (1 : Byte).toNat ∧ s0.rxbuf = [] ∧ s0.config.drainMode = .single ∧
    s0.config.minFrameLen < 5 + (1 : Byte).toNat ∧ (∀ c ∈ s0.config.rxbufCap, 5 + (1 : Byte).toNat ≤ c) := by
  decide

theorem witness_IntegerTagsWriteBytes :
    ((0 : Int) ≤ 0 ∧ (255 : Int) ≤ 255) ∧ ((-1 : Int) < 0 ∧ (255 : Int) < 256) ∧ ((-129 : Int) < -128 ∧ (127 : Int) < 128) ∧
    ((Value.eui ieee).wf = true ∧ (∀ n, Value.eui ieee ≠ .int n) ∧ (∀ a, Value.eui ieee ≠ .nwk a)) := by
  refine ⟨by decide, by decide, by decide, by decide, fun n h => ?_, fun a h => ?_⟩ <;> cases h

theorem witness_IntegerTagsReadBytes :
    (0 + 2 ≤ [0x61, (0xE9 : Byte)].length ∧ (true && (⟨none, none, true⟩ : ReadOpts).isAddress) = true) ∧
    (true && noOpts.isAddress) = false ∧ [(0x61 : Byte)].length < 0 + 2 := by
  decide

theorem witness_IdentifierBytesReversed :
    ((Value.int 5).wf = true ∧ ∀ t, Value.int 5 ≠ .eui t) ∧ (ramp 7).length < 0 + 8 :=
  ⟨⟨rfl, fun _ h => nomatch h⟩, by decide⟩

theorem witness_BufferTagsCopyAndRead :
    ((Value.int 5).wf = true ∧ ∀ x, Value.int 5 ≠ .bytes x) ∧ ((withLength 0).length = some 0 ∧ 1 + 0 ≤ [(1 : Byte)].length) ∧
    ((withLength 5).length = some 5 ∧ (ramp 4).length < 0 + 5) ∧ noOpts.length = none ∧ 0 + 100 ≤ (ramp 100).length ∧
    (ramp 17).length < 0 + 18 :=
  ⟨⟨rfl, fun _ h => nomatch h⟩, by decide, by decide, by decide, by decide, by decide⟩

theorem witness_IntegerListsWriteElements :
    ([Value.int 0, .int 255].map (number false) = [0, 255].map some ∧ (∀ n ∈ [(0 : Int), 255], 0 ≤ n ∧ n < 256 ^ 1)) ∧
    ([Value.nwk 0xFFFF, .int 65536].map (number true) = (([0xFFFF] : List Int) ++ 65536 :: []).map some ∧ (256 : Int) ^ 2 ≤ 65536) ∧
    ((Values.ofList [.nwk 1]).wf = true ∧ none ∈ [Value.nwk 1].map (number false)) ∧ ((Value.int 1).wf = true ∧ ∀ vs, Value.int 1 ≠ .list vs) :=
  ⟨by decide, by decide, by decide, rfl, fun _ h => nomatch h⟩

theorem witness_IntegerListsReadElements :
    ((withLength 0).length = some 0 ∧ 0 = 0) ∧ ((withLength 2).length = some 2 ∧ 0 + 2 * 2 ≤ (ramp 4).length) ∧
    (2 ≠ 0 ∧ (ramp 3).length < 0 + 2 * 2) ∧
    ((⟨some 3, some 1, false⟩ : ReadOpts).length = some 3 ∧ (⟨some 3, some 1, false⟩ : ReadOpts).startIndex = some 1 ∧
      s0.config.assocCount = .lengthMinusStart) ∧ noOpts.length = none ∧ (withLength 3).startIndex = none := by
  decide

theorem witness_DefaultRecordListsRoundTrip :
    s0.config.layoutRouting = Config.defaultLayoutRouting ∧ s0.config.layoutBind = Config.defaultLayoutBind ∧
    s0.config.layoutNetwork = Config.defaultLayoutNetwork ∧ (withLength 0).length = some ([].map Route.value).length := by
  decide

/-- A routing record whose last field holds the value. -/
def badRoute (v : Value) : Fields :=
  Fields.ofList [("destNwkAddr", .int 0xFFFF), ("routeStatus", .int 255), ("nextHopNwkAddr", v)]

/-- A routing record in range. -/
def route : Fields := badRoute (.nwk 0xFFFF)

theorem witness_RecordListErrors :
    ((Value.int 1).wf = true ∧ ∀ vs, Value.int 1 ≠ .list vs) ∧
    ((Values.ofList ([route].map .record ++ [.int 1])).wf = true ∧ ∀ m, Value.int 1 ≠ .record m) ∧
    ((Values.ofList ([route].map .record ++ [.record .nil])).wf = true ∧ (∀ f ∈ layoutFields s0.config.layoutRouting, fieldFits route f = true) ∧
      layoutFields s0.config.layoutRouting = [] ++ ("destNwkAddr", some 16) :: [("routeStatus", some 8), ("nextHopNwkAddr", some 16)] ∧
      Fields.nil.get? "destNwkAddr" = none) ∧
    (layoutFields s0.config.layoutRouting = [("destNwkAddr", some 16), ("routeStatus", some 8)] ++ ("nextHopNwkAddr", some 16) :: [] ∧
      (badRoute (.eui ieee)).get? "nextHopNwkAddr" = some (.eui ieee) ∧ kindFits (some 16) (.eui ieee) = false ∧
      ∀ f ∈ [("destNwkAddr", some 16), ("routeStatus", some 8)], fieldFits (badRoute (.eui ieee)) f = true) ∧
    ((Values.ofList (([route] ++ badRoute (.int 0x10000) :: []).map .record)).wf = true ∧
      (∀ r ∈ [route] ++ badRoute (.int 0x10000) :: [], ∀ f ∈ layoutFields s0.config.layoutRouting, fieldFits r f = true) ∧
      (∀ f ∈ layoutFields s0.config.layoutRouting, rangeFits route f = true) ∧
      (∀ f ∈ [("destNwkAddr", some 16), ("routeStatus", some 8)], rangeFits (badRoute (.int 0x10000)) f = true) ∧
      ((badRoute (.int 0x10000)).get? "nextHopNwkAddr").bind (number true) = some 0x10000 ∧ (2 : Int) ^ 16 ≤ 0x10000) ∧
    ((layoutFields s0.config.layoutNetwork)[2]? = some ("stackProfile", some 4) ∧ (2 : Int) ^ 4 ≤ 16) ∧
    noOpts.length = none ∧ (withLength 0).length = some 0 ∧
    ((withLength 2).length = some 2 ∧ s0.config.layoutBind ≠ [] ∧ (ramp 41).length < 0 + 2 * s0.config.layoutBind.size ∧
      (ramp 2).length < 3 + 2 * s0.config.layoutBind.size) :=
  ⟨⟨rfl, fun _ h => nomatch h⟩, ⟨by decide, fun _ h => nomatch h⟩, by decide, by decide, by decide, by decide, by decide, by decide, by decide⟩

/-- A layout of a packed byte with bits that no field covers, and a record at its bounds. -/
def gappedLayout : Layout := [.packed [⟨"a", 2, 1⟩, ⟨"b", 6, 4⟩], .u8 "c"]

def gapped : Fields := Fields.ofList [("a", .int 3), ("b", .int 5), ("c", .int 255)]

/-- R134: uncovered bits are written 0 and dropped on read. -/
theorem test_packed_gaps :
    pwriteListRoutingTable { cfg0 with layoutRouting := gappedLayout } (.list (.cons (.record gapped) .nil)) [] = .ok [0b01010110, 0xFF] ∧
    preadListRoutingTable { cfg0 with layoutRouting := gappedLayout } (withLength 1) [0b11011111, 0xFF] 0 =
      .ok (.list (.cons (.record gapped) .nil), 2) := by
  decide

theorem witness_RecordListsFollowLayouts :
    (s0.config.layoutRouting.wf = true ∧ s0.config.layoutBind.wf = true ∧ s0.config.layoutNeighbor.wf = true ∧
      s0.config.layoutNetwork.wf = true ∧ gappedLayout.wf = true ∧ gappedLayout ≠ []) ∧
    (recordFits gappedLayout gapped ∧ recordPlain gappedLayout gapped = true) ∧
    ((withLength 1).length = some 1 ∧ 0 + 1 * gappedLayout.size ≤ (ramp 2).length) ∧
    s0.config.layoutNeighbor.neighborConforms = true := by
  decide

theorem witness_LookupsFindTheEntry :
    (1 < 32 ∧ 2 ≤ 255 ∧ entryOfId s0 1 2 CommandSpec.version) ∧ (∀ d ∈ s0.cmdTable, ¬(d.subsystem.toNat = 31 ∧ d.wireId.toNat = 255)) ∧
    (32 ≤ 32 ∧ 255 < 256) ∧ entryOfName s0 1 "version" CommandSpec.version ∧
    (∀ d ∈ s0.cmdTable, ¬(d.subsystem.toNat = 1 ∧ d.name = "Version")) := by
  decide

theorem witness_FromFrameBindsPayload :
    (versionFrame.commandType = typeBits .srsp ∧
      entryOfId s0 versionFrame.subsystem.toNat versionFrame.commandId.toNat CommandSpec.version ∧
      readSchema s0.config (schemaOf CommandSpec.version .srsp) versionFrame.payload = .ok versionPayload) ∧
    readSchema s0.config (schemaOf CommandSpec.version .srsp) [] = .error (.bufferUnderrun 0 1) ∧
    ((⟨0, 31, 255, [], 0, 0⟩ : Frame).commandType.toNat ≤ 3 ∧ ∀ d ∈ s0.cmdTable, ¬(d.subsystem = 31 ∧ d.wireId = 255)) ∧
    3 < (⟨4, 1, 2, [], 0, 0x83⟩ : Frame).commandType.toNat := by
  decide

/-- Two length bytes, one at its bound. -/
def lengths : Fields := Fields.ofList [("len", .int 255), ("kind", .int 0)]

theorem witness_ToFrameGivesValidFrame :
    (versionObject.payload.wf = true ∧ (versionObject.schemaUsed.map (·.name)).Nodup ∧ writeSchema s0.config versionObject.schemaUsed versionObject.payload = .ok versionFrame.payload ∧
      versionFrame.payload.length ≤ 255) ∧
    (writeSchema s0.config [.plain "data" 4] (.cons "data" (.bytes (List.replicate 256 0)) .nil) = .ok (List.replicate 256 0) ∧
      255 < (List.replicate 256 (0 : Byte)).length) ∧
    writeSchema s0.config [.plain "type" 0] .nil = .error (.schemaError (.missingField "type")) ∧
    (namedSchema = [.plain "len" 0, .plain "kind" 0] ++ ⟨"data", 4, some "len", false⟩ :: [] ∧
      writeSchema s0.config [.plain "len" 0, .plain "kind" 0] lengths = .ok [255, 0] ∧ lengths.get? "data" = none ∧
      (lengths.set "data" (.bytes [7])).get? "data" = some (.bytes [7]) ∧
      writeReturns s0 ⟨"data", 4, some "len", false⟩ (.bytes [7]) [255, 0] (.ok (.bytes [255, 0, 7])) ∧
      writeReturns s0 ⟨"data", 4, some "len", false⟩ (.int 7) [255, 0] (.err (.schemaError (.wrongKind 4)))) ∧
    21 ≤ (ParameterSpec.plain "x" 21).typeTag :=
  ⟨by decide, ⟨rfl, by rw [List.length_replicate]; decide⟩, by decide, ⟨by decide, by decide, by decide, by decide, rfl, rfl⟩, by decide⟩

theorem witness_FromCommandBindsPayload :
    (1 < 32 ∧ Fields.nil.wf = true) ∧ entryOfName s0 1 "version" CommandSpec.version ∧
    (∀ d ∈ s0.cmdTable, ¬(d.subsystem.toNat = 31 ∧ d.name = "nosuch")) := by
  decide

theorem witness_FromClusterBuildsDataRequest :
    (0x1234 ≤ 0xFFFF ∧ 0xFFFF ≤ 0xFFFF ∧ 255 ≤ 255) ∧ 0x0104 ≠ s0.config.zdoProfile.toNat ∧
    entryOfName s0 4 "dataRequest" CommandSpec.dataRequest ∧
    (∀ d ∈ sPing.cmdTable, ¬(d.subsystem = 4 ∧ d.name = "dataRequest")) ∧ 0xFFFF < 0x10000 ∧ 255 < 256 := by
  decide

theorem witness_FromClusterDecodesDiscovery :
    (2 ≤ 255 ∧ entryOfId s0 5 2 CommandSpec.nodeDescReq ∧
      readSchema s0.config CommandSpec.nodeDescReq.requestSchema
        ((if (BitVec.ofNat 16 0, BitVec.ofNat 16 2) ∈ s0.config.bcastPermitJoin then [s0.config.pjAddrMode] else []) ++
          two (BitVec.ofNat 16 0) ++ [0x34]) = .error (.bufferUnderrun 2 2)) ∧
    255 < 256 ∧ (∀ d ∈ s0.cmdTable, ¬(d.subsystem = 5 ∧ d.wireId.toNat = 255)) := by
  decide

theorem witness_ResetCommandsRecognised : resetRequest.payload.wf = true ∧ (resetRequest.schemaUsed.map (·.name)).Nodup := by decide

theorem witness_VersionResponseRoundTrip : entryOfId s0 1 2 CommandSpec.version := by decide

/-- The second field of `namedSchema` has a length source named before it, the first of a schema none. -/
theorem witness_DecodeWalkThreadsLengths :
    readSchema cfg0 CommandSpec.version.responseSchema versionFrame.payload = .ok versionPayload ∧
    ((([.plain "len" 0, .plain "kind" 0] ++ [⟨"data", 4, some "len", false⟩] : Schema).map (·.name)).Nodup ∧
      readSchema s0.config [.plain "len" 0, .plain "kind" 0] [255, 0] = .ok lengths ∧
      (∀ k < [255, (0 : Byte)].length, readSchema s0.config [.plain "len" 0, .plain "kind" 0] ([255, 0].take k) ≠ .ok lengths)) ∧
    threaded [.plain "len" 0, .plain "kind" 0] ⟨"data", 4, some "len", false⟩ lengths (withLength 255) ∧
    threaded [.plain "len" 0, .plain "kind" 0] (.plain "data" 17) lengths ⟨some 0, some 255, false⟩ ∧
    threaded [] (.plain "data" 4) .nil noOpts ∧
    readReturns s0 (.plain "data" 17) ⟨some 0, some 255, false⟩ ([255, 0] ++ [7]) 2 (.ok (.read (.list .nil) 2)) ∧
    readReturns s0 ⟨"data", 4, some "len", false⟩ (withLength 255) ([255, 0] ++ []) 2 (.err (.bufferUnderrun 2 255)) ∧
    readReturns s0 (.plain "data" 4) noOpts ([] ++ []) 0 (.err (.schemaError (.missingLength 4))) ∧
    "other" ∉ ([.plain "len" 0, .plain "kind" 0] : Schema).map (·.name) :=
  ⟨by decide, by decide, ⟨rfl, .inr ⟨[], .plain "len" 0, [.plain "kind" 0], rfl, .inl rfl, by decide, rfl⟩⟩,
    ⟨rfl, .inr ⟨[.plain "len" 0], .plain "kind" 0, [], rfl, .inr ⟨rfl, rfl⟩, by decide, by decide⟩⟩,
    ⟨rfl, .inl ⟨rfl, rfl, rfl, rfl⟩⟩, rfl, rfl, rfl, by decide⟩

theorem witness_PlainSchemaRoundTrip :
    (CommandSpec.version.responseSchema.map (·.name)).Nodup ∧ plainPayload CommandSpec.version.responseSchema versionPayload ∧
    writeSchema cfg0 CommandSpec.version.responseSchema versionPayload = .ok versionFrame.payload := by
  decide

theorem witness_RequestIsIssued :
    (Operands.request 1 .nil [0] = true ∧ built s0 1 "version" .nil versionRequest [0xFE, 0x00, 0x21, 0x02, 0x23] ∧ s0.gate = .free ∧
      s0.config.waiterCap ≠ some s0.waiters.length ∧ versionRequest.commandType = .sreq) ∧
    (built s0 1 "resetReq" (.cons "type" (.int 1) .nil) resetRequest [0xFE, 0x01, 0x41, 0x00, 0x01, 0x41] ∧
      resetRequest.commandType = .areq ∧ isReset resetRequest) := by
  decide

theorem witness_PlainAreqCompletesAtOnce :
    Operands.request 7 .nil [] = true ∧ built sPing 7 "ping" .nil pingRequest [0xFE, 0x00, 0x47, 0x10, 0x57] ∧ sPing.gate = .free ∧
    sPing.handlesDrawn ∧ pingRequest.commandType = .areq ∧ ¬isReset pingRequest := by
  decide

theorem witness_RequestWaitsForGate :
    (Operands.request 1 .nil [0] = true ∧ built requested 1 "version" .nil versionRequest [0xFE, 0x00, 0x21, 0x02, 0x23] ∧
      requested.gate = .held 0 ∧ versionRequest.commandType = .sreq) ∧
    (built requested 1 "resetReq" (.cons "type" (.int 1) .nil) resetRequest [0xFE, 0x01, 0x41, 0x00, 0x01, 0x41] ∧
      resetRequest.commandType = .areq ∧ isReset resetRequest) ∧
    (built { sPing with gate := .held 0 } 7 "ping" .nil pingRequest [0xFE, 0x00, 0x47, 0x10, 0x57] ∧ ¬isReset pingRequest) := by
  decide

theorem witness_RequestRefusedAtOnce :
    Operands.request 1 .nil [0] = true ∧ fromCommand s0.cmdTable 1 "nosuch" .nil = .error (.unknownCommand (.byName 1 "nosuch")) ∧
    (fromCommand s0.cmdTable 1 "resetReq" .nil = .ok { resetRequest with payload := .nil } ∧
      toFrame s0.config { resetRequest with payload := .nil } = .error (.schemaError (.missingField "type"))) ∧
    (built sPing 7 "pong" .nil pongRequest [0xFE, 0x00, 0x67, 0x11, 0x76] ∧ pongRequest.commandType = .srsp) := by
  decide

theorem witness_RequestWithoutRoomFails :
    Operands.request 1 .nil [0] = true ∧
    built (blockOf { cfg0 with waiterCap := some 0 }) 1 "version" .nil versionRequest [0xFE, 0x00, 0x21, 0x02, 0x23] ∧
    (blockOf { cfg0 with waiterCap := some 0 }).gate = .free ∧ (blockOf { cfg0 with waiterCap := some 0 }).handlesDrawn ∧
    (blockOf { cfg0 with waiterCap := some 0 }).config.waiterCap = some (blockOf { cfg0 with waiterCap := some 0 }).waiters.length ∧
    versionRequest.commandType = .sreq := by
  decide

theorem witness_ResponseWaiterIsRegistered :
    (31 < 32 ∧ Fields.nil.wf = true ∧ s0.config.waiterCap ≠ some s0.waiters.length) ∧
    (blockOf { cfg0 with waiterCap := some 0 }).config.waiterCap = some (blockOf { cfg0 with waiterCap := some 0 }).waiters.length ∧
    3 < 4 := by
  decide

theorem witness_AwaitHoldsOrReturns :
    (FMap.get? 0 waiting.slots = some ⟨.pending, false⟩ ∧ ∀ x ∈ waiting.waiters, x.wid = 0 → x.owner = .caller) ∧
    (FMap.get? 0 lapsed.slots = some ⟨.timedOut 5 "nodeDescReq", false⟩ ∧ ∀ x ∈ lapsed.waiters, x.wid ≠ 0) ∧
    (FMap.get? 0 (after (.cancelWaiter 0) waiting).slots = some ⟨.cancelled, false⟩) ∧
    (FMap.get? 0 (after (.frameReceived nodeFrame) waiting).slots = some ⟨.fulfilled nodeObject, false⟩) ∧
    (FMap.get? 0 (after .disconnect { waiting with config := { cfg0 with failOnDisconnect := true } }).slots = some ⟨.failed, false⟩) ∧
    FMap.get? 9 s0.slots = none ∧ (∃ x ∈ requested.waiters, x.wid = 0 ∧ x.owner ≠ .caller) ∧
    (FMap.get? 0 awaiting.slots).any (·.awaited) = true := by
  decide

/-- The context of a request in a state. -/
def ctxOf (rid : Nat) (s : State) : ReqCtx :=
  (FMap.get? rid s.reqs).getD ⟨.idle, zeroObject, [], .areqPath, [], none, none⟩

theorem witness_CancelRequestCompletesIt :
    FMap.get? 9 s0.reqs = none ∧
    (FMap.get? 1 queued.reqs = some (ctxOf 1 queued) ∧ (ctxOf 1 queued).phase = .waitGate ∧ (ctxOf 1 queued).wid = none ∧
      queued.gate ≠ .held 1) ∧
    (FMap.get? 0 requested.reqs = some (ctxOf 0 requested) ∧ (ctxOf 0 requested).phase = .awaitingReply ∧
      (ctxOf 0 requested).wid = some 0 ∧ requested.gate = .held 0) := by
  decide

theorem witness_CancelWaiterSettlesIt :
    (waiting.canonical ∧ ∃ x ∈ waiting.waiters, x.owner = .caller ∧ FMap.get? x.wid waiting.slots = some ⟨.pending, false⟩) ∧
    (awaiting.canonical ∧ ∃ x ∈ awaiting.waiters, x.owner = .caller ∧ FMap.get? x.wid awaiting.slots = some ⟨.pending, true⟩) ∧
    (requested.canonical ∧ ∃ x ∈ requested.waiters, x.owner ≠ .caller) ∧ (∀ x ∈ s0.waiters, x.wid ≠ 0) := by
  decide

theorem witness_TickExpiresDueWaiters : requested.Inv ∧ awaiting.Inv ∧ queued.Inv :=
  ⟨by decide, by decide, by decide⟩

theorem witness_DisconnectReportsAndFails :
    s0.config.failOnDisconnect = false ∧
    ({ queued with config := { cfg0 with failOnDisconnect := true } } : State).config.failOnDisconnect = true ∧
    ({ queued with config := { cfg0 with failOnDisconnect := true } } : State).Inv := by
  decide

/-- The waiter of `waiting` and of `awaiting`. -/
def callersWaiter : Waiter := ⟨0, .srsp, 5, "nodeDescReq", .nil, 100, .caller⟩

theorem witness_FrameFulfilsCallersWaiter :
    (waiting.canonical ∧ firstMatch waiting nodeFrame nodeObject [] callersWaiter [] ∧ callersWaiter.owner = .caller ∧
      FMap.get? 0 waiting.slots = some ⟨.pending, false⟩) ∧
    (awaiting.canonical ∧ firstMatch awaiting nodeFrame nodeObject [] callersWaiter [] ∧
      FMap.get? 0 awaiting.slots = some ⟨.pending, true⟩) := by
  decide

/-- The waiter of `requested`. -/
def requestsWaiter : Waiter := ⟨0, .srsp, 1, "version", .nil, 6000, .req 0⟩

theorem witness_FrameCompletesRequest :
    requested.canonical ∧ firstMatch requested versionFrame versionObject [] requestsWaiter [] ∧ requestsWaiter.owner = .req 0 ∧
    FMap.get? 0 requested.reqs = some (ctxOf 0 requested) ∧ (ctxOf 0 requested).wid = some requestsWaiter.wid ∧
    requested.gate = .held 0 ∧ (ctxOf 0 requested).kind ≠ .areqPath := by
  decide

theorem witness_UnmatchedOrUndecodableFrame :
    (nodeFrame.valid = true ∧ fromFrame s0.cmdTable s0.config nodeFrame = .ok nodeObject ∧
      (∀ x ∈ s0.waiters, waiterMatches nodeObject x = false) ∧ nodeObject.name ∈ s0.handlers) ∧
    nodeObject.name ∉ ({ s0 with handlers := [] } : State).handlers ∧
    ((⟨2, 31, 0x55, [], 0, 0x0A⟩ : Frame).valid = true ∧
      fromFrame s0.cmdTable s0.config ⟨2, 31, 0x55, [], 0, 0x0A⟩ = .error (.unknownCommand (.byId 31 0x55))) ∧
    ((⟨4, 1, 2, [], 0, 0x83⟩ : Frame).valid = true ∧ 3 < (⟨4, 1, 2, [], 0, 0x83⟩ : Frame).commandType.toNat) := by
  decide

/-- A matcher that names a field, and one record with the same fields that carry other tags. -/
theorem witness_MatchComparesKeyAndMatcher :
    callersWaiter.matcher.wf = true ∧ (Fields.ofList [("dstaddr", .nwk 0xFFFF)]).wf = true ∧
    (Fields.ofList [("dstaddr", .nwk 0xFFFF)]).get? "dstaddr" = some (.nwk 0xFFFF) ∧ (Value.int 0xFFFF).eqv (.nwk 0xFFFF) = true ∧
    kindNumber (.list .nil) ≠ kindNumber (.bytes []) ∧ (Fields.ofList [("dstaddr", .int 0xFFFF)]).wf = true := by
  decide

/-- `queued` with its gate free again and no room for a waiter. -/
def fullQueue : State :=
  { after (.cancelRequest 0) queued with config := { cfg0 with waiterCap := some 0, gateOrder := .oldest } }

theorem witness_GateGrantIssuesHeldRequest :
    (queued.gate ≠ .free ∧ s0.gateQueue = []) ∧
    ((after (.cancelRequest 0) queued).gate = .free ∧ (after (.cancelRequest 0) queued).gateQueue ≠ [] ∧
      (after (.cancelRequest 0) queued).Inv ∧
      (after (.cancelRequest 0) queued).config.waiterCap ≠ some (after (.cancelRequest 0) queued).waiters.length ∧
      (after (.cancelRequest 0) queued).config.gateOrder = .oldest) ∧
    (fullQueue.gate = .free ∧ fullQueue.gateQueue ≠ [] ∧ fullQueue.Inv ∧ fullQueue.config.waiterCap = some fullQueue.waiters.length) :=
  ⟨by decide, by decide, by decide⟩

/-- R243: the request that finds the pending set full completes at once, and the gate stays free. -/
theorem test_gateGrant_full :
    (after .gateGrant fullQueue).done = fullQueue.done ++ [⟨.req 1, .err .waiterTableFull⟩] ∧ (after .gateGrant fullQueue).gate = .free ∧
    (after .gateGrant fullQueue).tx = fullQueue.tx ∧ (after .gateGrant fullQueue).gateQueue = [] := by
  decide

/-- A step from `s`. -/
def stepped (s : State) : State :=
  match step s with
  | .next t => t
  | .fault _ => s
  | .refused _ => s

theorem witness_StepKeepsInvariant :
    (withPort [encode (.cancelRequest 0)] queued).Inv ∧
    step (withPort [encode (.cancelRequest 0)] queued) = .next (stepped (withPort [encode (.cancelRequest 0)] queued)) :=
  ⟨by decide, rfl⟩

theorem witness_StepKeepsFramesWhole :
    (withPort [encode (.cancelRequest 0)] queued).framesWhole ∧
    step (withPort [encode (.cancelRequest 0)] queued) = .next (stepped (withPort [encode (.cancelRequest 0)] queued)) :=
  ⟨by decide, rfl⟩

theorem witness_RequestsCompleteExactlyOnce :
    (withPort [encode (.request 1 "version" .nil [0])] s0).completedOnce ∧
    step (withPort [encode (.request 1 "version" .nil [0])] s0) = .next (stepped (withPort [encode (.request 1 "version" .nil [0])] s0)) :=
  ⟨⟨fun _ h => absurd h (Nat.not_lt_zero _), fun _ _ => ⟨List.not_mem_nil, rfl⟩⟩, rfl⟩

theorem witness_StepKeepsCapacities :
    (withPort [encode (.rxPush [0])] (blockOf { cfg0 with rxbufCap := some 0, waiterCap := some 0 })).withinCapacity ∧
    step (withPort [encode (.rxPush [0])] (blockOf { cfg0 with rxbufCap := some 0, waiterCap := some 0 })) =
      .next (stepped (withPort [encode (.rxPush [0])] (blockOf { cfg0 with rxbufCap := some 0, waiterCap := some 0 }))) :=
  ⟨by decide, rfl⟩

theorem witness_StepGoesOnAndKeepsConstruction :
    encode (.fromCluster 0x10000 0 0 0 0 0 []) = .op .caller 0x63 [.num 0x10000, .num 0, .num 0, .num 0, .num 0, .num 0, .bytes []] ∧
    (Instr.fromCluster 0x10000 0 0 0 0 0 []).wf = false := by
  decide

theorem witness_SettledWaitersNeverReturn :
    step (withPort [encode (.cancelWaiter 0)] waiting) = .next (stepped (withPort [encode (.cancelWaiter 0)] waiting)) := rfl

theorem witness_OnlyTickMovesTimeOnlyBytesMoveBuffer :
    step (withPort [encode (.tick 1)] s0) = .next (stepped (withPort [encode (.tick 1)] s0)) := rfl

theorem witness_PureOperationsOnlyAnswer :
    pureOperation (.checksum []) = true ∧ pureOperation (.lookupByName 1 "n") = true ∧ s0.config = requested.config ∧
    s0.cmdTable = requested.cmdTable := by
  decide

end Sys2Proof.Tests
end

section
/-! PROOFS. The operations of the pure units (spec/10_state.md R40): what they answer comes from their operands, `CONFIG` and `CMD_TABLE`. Each of
them is one call of `respond`, `answer`, `readOp`, `writeOp` or `checked`, so there is one noninterference lemma for each of these. -/

namespace Sys2Proof.Proofs

open Sys2Proof Sys2Proof.Machine Sys2Proof.Claim

/-- R40: the two outcomes, of `s` and of `s'`, are one and the same response returned, with nothing else written. -/
def AnswerAlike (s s' : State) (o o' : Host.Outcome State Fault Refusal) : Prop :=
  ∃ r, o = .next (returns r s) ∧ o' = .next (returns r s')

theorem answerAlike_respond {s s' : State} (r : Response) : AnswerAlike s s' (.next (respond r s)) (.next (respond r s')) :=
  ⟨r, rfl, rfl⟩

/-- The results are two, `r` from the one state and `r'` from the other, because an operation may read `CONFIG` and `CMD_TABLE` for its result. -/
theorem answerAlike_answer {s s' : State} {r r' : Except Err OpResult} (hr : r = r') :
    AnswerAlike s s' (.next (answer r s)) (.next (answer r' s')) := by
  subst hr
  cases r with
  | ok v => exact answerAlike_respond (.ok v)
  | error e => exact answerAlike_respond (.err e)

/-- The check of the operands reads no state: in both states the operation runs, or in both it is refused with the same error. -/
theorem answerAlike_checked {s s' : State} {f f' : State → State} (op : Byte) (ok : Bool)
    (hf : AnswerAlike s s' (.next (f s)) (.next (f' s'))) :
    AnswerAlike s s' (.next (checked op ok f s)) (.next (checked op ok f' s')) := by
  cases ok with
  | true => exact hf
  | false => exact answerAlike_respond (.err (.illegalOperation op))

theorem answerAlike_readOp {s s' : State} {r r' : Except Err (Value × Nat)} (hr : r = r') :
    AnswerAlike s s' (.next (readOp r s)) (.next (readOp r' s')) :=
  answerAlike_answer (by rw [hr])

theorem answerAlike_writeOp {s s' : State} (op : Byte) (v : Value) {r r' : Except Err (List Byte)} (hr : r = r') :
    AnswerAlike s s' (.next (writeOp op v r s)) (.next (writeOp op v r' s')) :=
  answerAlike_checked op v.wf (answerAlike_answer (by rw [hr]))

/-- R40, one instruction at a time: the arms are grouped by what the operation reads of the state. -/
theorem exec_answerAlike_of_pure {i : Instr} {s s' : State} (hpure : pureOperation i = true) (hcfg : s.config = s'.config)
    (htbl : s.cmdTable = s'.cmdTable) : AnswerAlike s s' (exec i s) (exec i s') := by
  cases i with
  -- The writes whose layout is fixed.
  | pwriteUint8 | pwriteUint16 | pwriteUint32 | pwriteIeeeaddr | pwriteBuffer | pwriteBuffer8 | pwriteBuffer16 | pwriteBuffer18
  | pwriteBuffer32 | pwriteBuffer42 | pwriteBuffer100 | pwriteListUint8 | pwriteListUint16 | pwriteListAssocDev | pwriteInt8
  | pwriteInt16 | pwriteInt32 => exact answerAlike_writeOp _ _ rfl
  -- The writes of records, whose layout stands in `CONFIG`.
  | pwriteListRoutingTable | pwriteListBindTable | pwriteListNeighborLqi | pwriteListNetwork =>
    exact answerAlike_writeOp _ _ (by rw [hcfg])
  -- The reads, in the same two groups; `ASSOC_COUNT` is of `CONFIG` too.
  | preadUint8 | preadUint16 | preadUint32 | preadIeeeaddr | preadBuffer | preadBuffer8 | preadBuffer16 | preadBuffer18
  | preadBuffer32 | preadBuffer42 | preadBuffer100 | preadListUint8 | preadListUint16 | preadInt8 | preadInt16 | preadInt32 =>
    exact answerAlike_readOp rfl
  | preadListRoutingTable | preadListBindTable | preadListNeighborLqi | preadListNetwork | preadListAssocDev =>
    exact answerAlike_readOp (by rw [hcfg])
  -- The Frame Codec without RX_PUSH.
  | frameEncode => exact answerAlike_checked _ _ (answerAlike_answer rfl)
  | checksum => exact answerAlike_respond _
  -- The Command Table and the Command Object unit.
  | fromFrame => exact answerAlike_answer (by rw [hcfg, htbl])
  | toFrame => exact answerAlike_checked _ _ (answerAlike_answer (by rw [hcfg]))
  | fromCluster => exact answerAlike_checked _ _ (answerAlike_answer (by rw [hcfg, htbl]))
  | fromCommand | lookupById | lookupByName => exact answerAlike_checked _ _ (answerAlike_answer (by rw [htbl]))
  | isResetCommand => exact answerAlike_checked _ _ (answerAlike_respond _)
  -- RX_PUSH, the Request Engine, the internal steps and the frames on the wire are no pure operations.
  | rxPush | request | createResponseWaiter | await | cancelRequest | cancelWaiter | tick | disconnect | frameReceived | gateGrant
  | framePoll | frameSreq | frameAreq | frameSrsp | frameReservedType => exact absurd hpure Bool.false_ne_true

/-- Settles O60, through the lemma above for one instruction in two states. -/
theorem pureOperationsOnlyAnswer : Obligations.PureOperationsOnlyAnswer := by
  intro i s s' hpure hcfg htbl
  exact exec_answerAlike_of_pure hpure hcfg htbl

end Sys2Proof.Proofs
end

section
/-! PROOFS. The encoding (spec/30_encoding.md): the frame kind that a header word selects (R86), and the operation words and tags that are no
instruction (R81, R83). The step of a rejected input is the same for all of them, so each statement comes down to which rejection the decoder
gives. -/

namespace Sys2Proof.Proofs

open Sys2Proof Sys2Proof.Machine Sys2Proof.Claim

/-! ## Header words (R86) -/

theorem append_eq_append_iff {n m : Nat} (a c : BitVec n) (b d : BitVec m) : a ++ b = c ++ d ↔ a = c ∧ b = d := by
  constructor
  · intro h
    have hhigh := congrArg (BitVec.extractLsb' m n) h
    have hlow := congrArg (BitVec.extractLsb' 0 m) h
    rw [BitVec.extractLsb'_append_eq_left, BitVec.extractLsb'_append_eq_left] at hhigh
    rw [BitVec.extractLsb'_append_eq_right, BitVec.extractLsb'_append_eq_right] at hlow
    exact ⟨hhigh, hlow⟩
  · rintro ⟨rfl, rfl⟩
    rfl

/-- The shape that every pattern and every mask of R86 has: the marker byte and the three type bits, all else zero. -/
def headerBits (p : Byte) (t : BitVec 3) : BitVec (8 + 8 + (3 + 5) + 8) := p ++ 0#8 ++ (t ++ 0#5) ++ 0#8

theorem headerRows_eq : headerRows =
    [⟨.poll, headerBits 0xFE 0, headerBits 0xFF 7⟩, ⟨.sreq, headerBits 0xFE 1, headerBits 0xFF 7⟩,
     ⟨.areq, headerBits 0xFE 2, headerBits 0xFF 7⟩, ⟨.srsp, headerBits 0xFE 3, headerBits 0xFF 7⟩,
     ⟨.reservedType, headerBits 0xFE 4, headerBits 0xFF 4⟩] := rfl

theorem headerBits_inj (p q : Byte) (t u : BitVec 3) : headerBits p t = headerBits q u ↔ p = q ∧ t = u := by
  simp only [headerBits, append_eq_append_iff, and_true]

theorem append_and_headerBits (b0 b1 b3 q : Byte) (t m : BitVec 3) (u : BitVec 5) :
    (b0 ++ b1 ++ (t ++ u) ++ b3) &&& headerBits q m = headerBits (b0 &&& q) (t &&& m) := by
  simp only [headerBits, BitVec.and_append, BitVec.and_zero]

/-- A mask of R86 keeps the first byte and some of the type bits of a header word, and clears the length and the command id. -/
theorem headerWord_and_mask (b0 b1 b2 b3 : Byte) (m : BitVec 3) :
    headerWord b0 b1 b2 b3 &&& headerBits 0xFF m = headerBits b0 (b2.extractLsb' 5 3 &&& m) := by
  have hcmd0 : b2.extractLsb' 5 3 ++ b2.extractLsb' 0 5 = b2 := BitVec.extractLsb'_append_extractLsb' (w := 3) (len := 5)
  have hfirst : b0 &&& 0xFF = b0 := BitVec.and_allOnes
  calc headerWord b0 b1 b2 b3 &&& headerBits 0xFF m
      = headerWord b0 b1 (b2.extractLsb' 5 3 ++ b2.extractLsb' 0 5) b3 &&& headerBits 0xFF m := by rw [hcmd0]
    _ = headerBits (b0 &&& 0xFF) (b2.extractLsb' 5 3 &&& m) := append_and_headerBits b0 b1 b3 0xFF _ m _
    _ = headerBits b0 (b2.extractLsb' 5 3 &&& m) := by rw [hfirst]

/-- R86: a row is selected by the marker and by the type bits that its mask keeps. -/
theorem headerWord_selects_iff (b0 b1 b2 b3 : Byte) (m t : BitVec 3) :
    (headerWord b0 b1 b2 b3 &&& headerBits 0xFF m == headerBits 0xFE t) = decide (b0 = 0xFE ∧ b2.extractLsb' 5 3 &&& m = t) := by
  rw [headerWord_and_mask, Bool.beq_eq_decide_eq]
  exact decide_eq_decide.2 (headerBits_inj _ _ _ _)

/-- Settles O4: each row of R86 asks for the marker and for bits of the type, and the eight types are told apart one by one. -/
theorem headerSelectsKind : Obligations.HeaderSelectsKind := by
  intro b0 b1 b2 b3
  simp only [headerKind, headerRows_eq, List.find?_cons, List.find?_nil, headerWord_selects_iff]
  generalize b2.extractLsb' 5 3 = t
  by_cases hmarker : b0 = 0xFE
  · simp only [hmarker, true_and, if_true]
    revert t
    decide
  · simp only [hmarker, false_and, decide_false, if_false, Option.map_none]

/-! ## Inputs that are no instruction -/

/-- R81, R83, R301: an input that the decoder rejects is taken, its error is returned, and nothing else is written. -/
theorem step_of_decode_error {x : Input} {e : Reject} (h : decode x = .error e) (rest : List Input) (s : State) :
    step (withPort (x :: rest) s) = .next (fails (Reject.toErr e) (withPort rest s)) := by
  simp only [step, h]
  rfl

/-! ## Illegal and internal words (R81) -/

theorem decodeFrameCodec_of_le {op : Byte} (h : 3 ≤ opFunction op) (r : List Operand) :
    decodeFrameCodec op r = .error (.illegalWord op) := by
  unfold decodeFrameCodec
  split
  case h_4 => rfl
  all_goals omega

theorem decodeCommandObject_of_le {op : Byte} (h : 7 ≤ opFunction op) (r : List Operand) :
    decodeCommandObject op r = .error (.illegalWord op) := by
  unfold decodeCommandObject
  split
  case h_8 => rfl
  all_goals omega

theorem decodeRequestEngine_of_le {op : Byte} (h : 7 ≤ opFunction op) (r : List Operand) :
    decodeRequestEngine op r = .error (.illegalWord op) := by
  unfold decodeRequestEngine
  split
  case h_8 => rfl
  all_goals omega

theorem decodeInternal_of_le {op : Byte} (h : 2 ≤ opFunction op) (who : Agent) (r : List Operand) :
    decodeInternal who op r = .error (.illegalWord op) := by
  unfold decodeInternal
  split
  case h_3 => rfl
  all_goals omega

/-- R79, R81: where the words outside the opcode map stand, by unit and function. -/
theorem unit_function_of_not_definedWord {op : Byte} (h : definedWord op = false) :
    (opUnit op = 0 ∧ 3 ≤ opFunction op) ∨ (opUnit op = 3 ∧ 7 ≤ opFunction op) ∨ (opUnit op = 4 ∧ 7 ≤ opFunction op) ∨
      opUnit op = 5 ∨ opUnit op = 6 ∨ (opUnit op = 7 ∧ 2 ≤ opFunction op) := by
  have hlt := op.isLt
  simp only [definedWord, List.contains_eq_mem, List.mem_cons, List.not_mem_nil, BitVec.ofNat_eq_ofNat, ← BitVec.toNat_inj,
    BitVec.toNat_ofNat, Bool.or_eq_false_iff, decide_eq_false_iff_not] at h
  unfold opUnit opFunction
  omega

/-- R81: whoever presents it and with whatever record, a word outside the opcode map is illegal. -/
theorem decode_of_not_definedWord {op : Byte} (h : definedWord op = false) (who : Agent) (r : List Operand) :
    decode (.op who op r) = .error (.illegalWord op) := by
  rcases unit_function_of_not_definedWord h with ⟨hu, hf⟩ | ⟨hu, hf⟩ | ⟨hu, hf⟩ | hu | hu | ⟨hu, hf⟩
  · simpa only [decode, decodeOp, hu] using decodeFrameCodec_of_le hf r
  · simpa only [decode, decodeOp, hu] using decodeCommandObject_of_le hf r
  · simpa only [decode, decodeOp, hu] using decodeRequestEngine_of_le hf r
  · simp only [decode, decodeOp, hu]
  · simp only [decode, decodeOp, hu]
  · simpa only [decode, decodeOp, hu] using decodeInternal_of_le hf who r

/-- R81: the two internal words are the block's alone. -/
theorem decode_of_internalWord {who : Agent} {op : Byte} (hwho : who ≠ .block) (hop : op = 0xE0 ∨ op = 0xE1) (r : List Operand) :
    decode (.op who op r) = .error (.internalWord op) := by
  cases who with
  | block => exact absurd rfl hwho
  | transport | caller | clock => rcases hop with rfl | rfl <;> rfl

theorem decodeWrite_ne_illegalWord (op : Byte) (r : List Operand) : decodeWrite op r ≠ .error (.illegalWord op) := by
  unfold decodeWrite
  split
  · split
    · exact nofun
    · split <;> exact nofun
  · exact nofun

theorem decodeRead_ne_illegalWord (op : Byte) (r : List Operand) : decodeRead op r ≠ .error (.illegalWord op) := by
  unfold decodeRead
  split
  · split <;> exact nofun
  · exact nofun

/-! ## The words of units 1 and 2 -/

theorem decode_of_write {op : Byte} (hlo : 0x20 ≤ op.toNat) (hhi : op.toNat < 0x40) (who : Agent) (r : List Operand) :
    decode (.op who op r) = decodeWrite op r := by
  have hunit : opUnit op = 1 := by unfold opUnit; omega
  simp only [decode, decodeOp, hunit]

theorem decode_of_read {op : Byte} (hlo : 0x40 ≤ op.toNat) (hhi : op.toNat < 0x60) (who : Agent) (r : List Operand) :
    decode (.op who op r) = decodeRead op r := by
  have hunit : opUnit op = 2 := by unfold opUnit; omega
  simp only [decode, decodeOp, hunit]

/-- Settles O5: the decoder rejects both sorts of word, and the step of a rejected input writes nothing else; units 1 and 2 reject records and tags
only. -/
theorem illegalWordsChangeNothing : Obligations.IllegalWordsChangeNothing := by
  constructor
  · rintro who op r rest s (hundefined | ⟨hwho, hop⟩)
    · exact step_of_decode_error (decode_of_not_definedWord hundefined who r) rest s
    · exact step_of_decode_error (decode_of_internalWord hwho hop r) rest s
  · intro who op r hlo hhi
    rcases Nat.lt_or_ge op.toNat 0x40 with hwrite | hread
    · rw [decode_of_write hlo hwrite]
      exact decodeWrite_ne_illegalWord op r
    · rw [decode_of_read hread hhi]
      exact decodeRead_ne_illegalWord op r

/-! ## Tags without a rule (R83) -/

/-- R82: the tags are the numbers 0 to 20. -/
theorem tagOfNat?_eq_none {n : Nat} (h : 21 ≤ n) : Tag.ofNat? n = none := List.getElem?_eq_none h

theorem decodeWrite_of_tagWithoutRule {op : Byte} {v : Value} (h : 21 ≤ opFunction op) (hv : v.wf = true) (w : List Byte) :
    decodeWrite op [.value v, .bytes w] = .error (.tagWithoutRule (opFunction op)) := by
  simp only [decodeWrite, tagOfNat?_eq_none h, hv, if_true]

theorem decodeRead_of_tagWithoutRule {op : Byte} (h : 21 ≤ opFunction op) (o : ReadOpts) (b : List Byte) (p : Nat) :
    decodeRead op [.opts o, .bytes b, .num p] = .error (.tagWithoutRule (opFunction op)) := by
  simp only [decodeRead, tagOfNat?_eq_none h]

theorem pwrite_of_tagWithoutRule {tag : Nat} (h : 21 ≤ tag) (cfg : Config) (v : Value) (w : List Byte) :
    pwrite cfg tag v w = .error (.unsupportedParameterType tag) := by
  simp only [pwrite, tagOfNat?_eq_none h]

theorem pread_of_tagWithoutRule {tag : Nat} (h : 21 ≤ tag) (cfg : Config) (o : ReadOpts) (b : List Byte) (p : Nat) :
    pread cfg tag o b p = .error (.unsupportedParameterType tag) := by
  simp only [pread, tagOfNat?_eq_none h]

/-- Settles O6: the port's words are rejected by the decoder, the walks' by the codec, both because no tag has the number. -/
theorem tagsWithoutRule : Obligations.TagsWithoutRule := by
  refine ⟨?_, ?_, ?_, ?_⟩
  · intro who op v w rest s hlo hhi htag hv
    exact step_of_decode_error ((decode_of_write hlo hhi who _).trans (decodeWrite_of_tagWithoutRule htag hv w)) rest s
  · intro who op o b p rest s hlo hhi htag
    exact step_of_decode_error ((decode_of_read hlo hhi who _).trans (decodeRead_of_tagWithoutRule htag o b p)) rest s
  · intro cfg tag v w htag
    exact pwrite_of_tagWithoutRule htag cfg v w
  · intro cfg tag o b p htag
    exact pread_of_tagWithoutRule htag cfg o b p

end Sys2Proof.Proofs
end

section
/-! PROOFS. The Frame Codec (spec/40_frame_codec.md): CHECKSUM and FRAME_ENCODE as functions of their operands, and RX_PUSH through what one scan of
the accumulator finds. A push that finds no frame waits with the bytes it keeps; a push that finds one delivers it and, in LOOP mode, goes on as a push
of nothing would, because the bound on its passes is never reached. Each statement about RX_PUSH then comes down to a scan of known bytes. -/

namespace Sys2Proof.Proofs

open Sys2Proof Sys2Proof.Machine Sys2Proof.Claim

/-! ## Checksums (R10, R100) -/

@[simp] theorem xorfold_cons (b : Byte) (l : List Byte) : xorfold (b :: l) = b ^^^ xorfold l := rfl

theorem xorfold_append (l m : List Byte) : xorfold (l ++ m) = xorfold l ^^^ xorfold m := by
  induction l with
  | nil => exact BitVec.zero_xor.symm
  | cons b l ih => rw [List.cons_append, xorfold_cons, ih, xorfold_cons, BitVec.xor_assoc]

theorem foldl_xor_eq (a : Byte) (l : List Byte) : l.foldl (fun x y => x ^^^ y) a = a ^^^ xorfold l := by
  induction l generalizing a with
  | nil => exact BitVec.xor_zero.symm
  | cons b l ih => rw [List.foldl_cons, ih, xorfold_cons, BitVec.xor_assoc]

/-- The claims' fold from the left and the machine's recursion from the right agree. -/
theorem fold_eq_xorfold (l : List Byte) : fold l = xorfold l := (foldl_xor_eq 0 l).trans BitVec.zero_xor

theorem exec_checksum (b : List Byte) (s : State) : exec (.checksum b) s = .next (gives (.byte (xorfold b)) s) := rfl

/-- Settles O8: XOR is associative, so the two folds agree, and a sequence cancels itself. -/
theorem checksumIsXorOfBytes : Obligations.ChecksumIsXorOfBytes := by
  intro b s
  refine ⟨?_, exec_checksum [] s, ?_⟩
  · rw [exec_checksum, fold_eq_xorfold]
  · rw [exec_checksum, xorfold_append, BitVec.xor_self]
    rfl

/-! ## Encoding (R101, R102) -/

/-- R71: the shift and the mask of the machine put the low three bits of the type above the low five of the subsystem. -/
theorem cmd0_eq_cmd (c u : Nat) : cmd0 c u = cmd (BitVec.ofNat 3 c) (BitVec.ofNat 5 u) := by
  have hlow : u &&& 0x1F = u % 2 ^ 5 := Nat.and_two_pow_sub_one_eq_mod u 5
  have hsum (n : Nat) : n <<< 5 ||| u % 2 ^ 5 = n * 2 ^ 5 + u % 2 ^ 5 := by
    rw [← Nat.shiftLeft_add_eq_or_of_lt (Nat.mod_lt u (by decide)), Nat.shiftLeft_eq]
  apply BitVec.eq_of_toNat_eq
  simp only [cmd0, cmd, BitVec.toNat_append, BitVec.toNat_ofNat, hlow, hsum]
  omega

@[simp] theorem cmd0Type_cmd (t : BitVec 3) (u : Subsystem) : cmd0Type (cmd t u) = t := BitVec.extractLsb'_append_eq_left

@[simp] theorem cmd0Subsystem_cmd (t : BitVec 3) (u : Subsystem) : cmd0Subsystem (cmd t u) = u := BitVec.extractLsb'_append_eq_right

theorem cmd0_toNat (t : BitVec 3) (u : Subsystem) : cmd0 t.toNat u.toNat = cmd t u := by
  rw [cmd0_eq_cmd, BitVec.ofNat_toNat, BitVec.ofNat_toNat, BitVec.setWidth_eq, BitVec.setWidth_eq]

theorem frameEncode_of_reserved {c : Nat} (hc : 3 < c) (u k : Nat) (p : List Byte) :
    frameEncode c u k p = .error (.reservedCommandType c) := if_pos hc

theorem frameEncode_of_long {c : Nat} {p : List Byte} (hc : c ≤ 3) (hp : 255 < p.length) (u k : Nat) :
    frameEncode c u k p = .error (.payloadTooLong p.length) := by
  rw [frameEncode, if_neg (by omega), if_pos hp]

theorem frameEncode_of_fits {c : Nat} {p : List Byte} (hc : c ≤ 3) (hp : p.length ≤ 255) (u k : Nat) :
    frameEncode c u k p =
      .ok (wireBytes (BitVec.ofNat 8 p.length) (cmd0 c u) (BitVec.ofNat 8 k) p
        (xorfold ([BitVec.ofNat 8 p.length, cmd0 c u, BitVec.ofNat 8 k] ++ p))) := by
  rw [frameEncode, if_neg (by omega), if_neg (by omega)]

theorem exec_frameEncode (c u k : Nat) (p : List Byte) (s : State) :
    exec (.frameEncode c u k p) s =
      .next (checked 0x00 (Operands.frameEncode c u k) (answer ((frameEncode c u k p).map .bytes)) s) := rfl

theorem exec_frameEncode_of_range {c u k : Nat} (hc : c ≤ 7) (hu : u ≤ 255) (hk : k ≤ 255) (p : List Byte) (s : State) :
    exec (.frameEncode c u k p) s = .next (answer ((frameEncode c u k p).map .bytes) s) := by
  have hok : Operands.frameEncode c u k = true := decide_eq_true ⟨hc, hu, hk⟩
  rw [exec_frameEncode, hok, checked_true]

theorem exec_frameEncode_of_not_range {c u k : Nat} (h : 7 < c ∨ 255 < u ∨ 255 < k) (p : List Byte) (s : State) :
    exec (.frameEncode c u k p) s = .next (fails (.illegalOperation 0x00) s) := by
  have hbad : Operands.frameEncode c u k = false := decide_eq_false (by omega)
  rw [exec_frameEncode, hbad, checked_false]
  rfl

/-- Settles O9: the operands are checked first, then the type, then the length (R303). -/
theorem frameEncodeBuildsFrame : Obligations.FrameEncodeBuildsFrame := by
  intro c u k p s
  refine ⟨?_, ?_, ?_, fun h => exec_frameEncode_of_not_range h p s⟩
  · intro hc hu hk hp
    rw [exec_frameEncode_of_range (by omega) hu hk, frameEncode_of_fits hc hp, cmd0_eq_cmd, ← fold_eq_xorfold]
    rfl
  · intro hc hc' hu hk
    rw [exec_frameEncode_of_range hc' hu hk, frameEncode_of_reserved hc]
    rfl
  · intro hc hu hk hp
    rw [exec_frameEncode_of_range (by omega) hu hk, frameEncode_of_long hc hp]
    rfl

/-! ## One scan of the accumulator (R105 to R111) -/

theorem rxScan_nil (cfg : Config) : rxScan cfg [] = .wait [] := rfl

/-- R107: an accumulator that begins with the marker is sliced as it stands. -/
theorem rxScan_marker (cfg : Config) (l : List Byte) : rxScan cfg (marker :: l) = sliceFrame cfg.minFrameLen (marker :: l) := by
  rw [rxScan, if_pos rfl]

/-- R105. -/
theorem rxScan_discardAll {cfg : Config} (hmode : cfg.resyncMode = .discardAll) {b : Byte} (hb : b ≠ marker) (l : List Byte) :
    rxScan cfg (b :: l) = .wait [] := by
  simp only [rxScan, hb, hmode, if_false]

theorem scanToMarker_marker (l : List Byte) : scanToMarker (marker :: l) = marker :: l := if_pos rfl

theorem scanToMarker_noise {noise : List Byte} (h : ∀ b ∈ noise, b ≠ marker) (l : List Byte) :
    scanToMarker (noise ++ l) = scanToMarker l := by
  induction noise with
  | nil => rfl
  | cons b bs ih =>
    obtain ⟨hb, hbs⟩ := List.forall_mem_cons.1 h
    rw [List.cons_append, scanToMarker, if_neg hb, ih hbs]

/-- R106: in SCAN_FORWARD mode a scan finds what a scan from the first marker on finds. -/
theorem rxScan_scanForward {cfg : Config} (hmode : cfg.resyncMode = .scanForward) (buf : List Byte) :
    rxScan cfg buf = rxScan cfg (scanToMarker buf) := by
  cases buf with
  | nil => rfl
  | cons b bs =>
    by_cases hb : b = marker
    · rw [hb, scanToMarker_marker]
    · simp only [rxScan, scanToMarker, hb, hmode, if_false]
      cases htail : scanToMarker bs with
      | nil => rfl
      | cons c cs => simp only [scanToMarker_head htail, if_true]

/-- R104, R107, R111: bytes that begin a frame and do not complete it. -/
theorem rxScan_partial {cfg : Config} {buf : List Byte} (hmarker : buf.head? = some marker)
    (hpartial : buf.length ≤ cfg.minFrameLen ∨ ∃ l ∈ buf[1]?, buf.length < 5 + l.toNat) : rxScan cfg buf = .wait buf := by
  obtain ⟨tail, rfl⟩ := List.head?_eq_some_iff.1 hmarker
  rw [rxScan_marker, sliceFrame]
  by_cases hmin : (marker :: tail).length ≤ cfg.minFrameLen
  · rw [if_pos hmin]
  · obtain ⟨l, hl, hlen⟩ := hpartial.resolve_left hmin
    rw [if_neg hmin, Option.mem_def.1 hl]
    exact if_pos hlen

@[simp] theorem length_wireBytes (l c id : Byte) (p : List Byte) (x : Byte) : (wireBytes l c id p x).length = 5 + p.length := by
  simp only [wireBytes, List.length_append, List.length_cons, List.length_nil]
  omega

/-- R108: bytes that begin with a whole frame, once they are more than MIN_FRAME_LEN. -/
theorem rxScan_wireBytes {cfg : Config} {l : Byte} {p rest : List Byte} (hp : p.length = l.toNat) (c id x : Byte)
    (hmin : cfg.minFrameLen < (wireBytes l c id p x ++ rest).length) :
    rxScan cfg (wireBytes l c id p x ++ rest) = .frame (wireBytes l c id p x) rest := by
  have hsize : (wireBytes l c id p x).length = 5 + l.toNat := by rw [length_wireBytes, hp]
  have hscan : rxScan cfg (wireBytes l c id p x ++ rest) = sliceFrame cfg.minFrameLen (wireBytes l c id p x ++ rest) :=
    rxScan_marker cfg _
  have hlength : (wireBytes l c id p x ++ rest)[1]? = some l := rfl
  have hwhole : ¬ (wireBytes l c id p x ++ rest).length < 5 + l.toNat := by
    rw [List.length_append, hsize]
    omega
  rw [hscan, sliceFrame, if_neg (Nat.not_le.2 hmin), hlength]
  simp only [hwhole, if_false]
  rw [← hsize, List.take_left, List.drop_left]

/-- R111: a proper beginning of a frame waits. That MIN_FRAME_LEN is not 0 is for the lone marker, which has no length byte yet. -/
theorem rxScan_beginning {cfg : Config} (hmin : 1 ≤ cfg.minFrameLen) {l c id x : Byte} {p a b : List Byte} (hp : p.length = l.toNat)
    (hsplit : wireBytes l c id p x = a ++ b) (hb : b ≠ []) : rxScan cfg a = .wait a := by
  have hshort : a.length < 5 + l.toNat := by
    have hlen := congrArg List.length hsplit
    have hpos := List.length_pos_iff.2 hb
    rw [length_wireBytes, List.length_append] at hlen
    omega
  match a, hsplit with
  | [], _ => exact rxScan_nil cfg
  | [y], hsplit =>
    obtain ⟨rfl, _⟩ := List.cons.inj hsplit
    exact rxScan_partial rfl (.inl hmin)
  | y :: z :: a, hsplit =>
    obtain ⟨rfl, htail⟩ := List.cons.inj hsplit
    obtain ⟨rfl, _⟩ := List.cons.inj htail
    exact rxScan_partial rfl (.inr ⟨l, rfl, hshort⟩)

/-- Every frame that a scan extracts takes at least five bytes from the accumulator. -/
theorem length_rest_of_rxScan_frame {cfg : Config} {buf f rest : List Byte} (h : rxScan cfg buf = .frame f rest) :
    rest.length < buf.length := by
  obtain ⟨hsuffix, _, l, _, hlen⟩ := rxScan_frame h
  have hle := hsuffix.length_le
  rw [List.length_append] at hle
  omega

/-! ## What becomes of a frame (R109, R110, R115) -/

theorem parseFrame_wireBytes (l c id : Byte) (p : List Byte) (x : Byte) :
    parseFrame (wireBytes l c id p x) = ⟨cmd0Type c, cmd0Subsystem c, id, p, l, x⟩ := by
  simp [parseFrame, wireBytes]

/-- R109, R110: the machine's reading of an extracted frame is the claims'. -/
theorem rxDeliver_wireBytes (l c id : Byte) (p : List Byte) (x : Byte) (s : State) :
    rxDeliver (wireBytes l c id p x) s = extracted l c id p x s := by
  have hbody : ((wireBytes l c id p x).drop 1).take ((wireBytes l c id p x).length - 2) = [l, c, id] ++ p := by simp [wireBytes]
  have hlast : (wireBytes l c id p x).getD ((wireBytes l c id p x).length - 1) 0 = x := by simp [wireBytes]
  simp only [rxDeliver, hbody, hlast, parseFrame_wireBytes, ← fold_eq_xorfold, eq_comm (b := x)]
  rfl

theorem dispatch_rxbuf (o : CommandObject) (s : State) : (dispatch o s).rxbuf = s.rxbuf := by
  unfold dispatch
  split <;> rfl

theorem dispatch_config (o : CommandObject) (s : State) : (dispatch o s).config = s.config := by
  unfold dispatch
  split <;> rfl

@[simp] theorem frameReceived_rxbuf (f : Frame) (s : State) : (frameReceived f s).rxbuf = s.rxbuf := by
  unfold frameReceived
  split
  · exact emitEvt_rxbuf _ s
  · split
    · exact settle_rxbuf _ _ s
    · exact dispatch_rxbuf _ s

@[simp] theorem frameReceived_config (f : Frame) (s : State) : (frameReceived f s).config = s.config := by
  unfold frameReceived
  split
  · exact emitEvt_config _ s
  · split
    · exact settle_config _ _ s
    · exact dispatch_config _ s

@[simp] theorem rxDeliver_rxbuf (f : List Byte) (s : State) : (rxDeliver f s).rxbuf = s.rxbuf := by
  dsimp only [rxDeliver]
  split
  · exact frameReceived_rxbuf _ s
  · exact emitEvt_rxbuf _ s

@[simp] theorem rxDeliver_config (f : List Byte) (s : State) : (rxDeliver f s).config = s.config := by
  dsimp only [rxDeliver]
  split
  · exact frameReceived_config _ s
  · exact emitEvt_config _ s

/-! ## The passes of one push (R103, R112) -/

theorem rxPasses_of_wait {s : State} {keep : List Byte} (h : rxScan s.config s.rxbuf = .wait keep) (k : Nat) :
    rxPasses (k + 1) s = { s with rxbuf := keep } := by
  simp only [rxPasses, h]

theorem rxPasses_of_frame_single {s : State} {f rest : List Byte} (h : rxScan s.config s.rxbuf = .frame f rest)
    (hmode : s.config.drainMode = .single) (k : Nat) : rxPasses (k + 1) s = rxDeliver f { s with rxbuf := rest } := by
  simp only [rxPasses, h, hmode]

theorem rxPasses_of_frame_loop {s : State} {f rest : List Byte} (h : rxScan s.config s.rxbuf = .frame f rest)
    (hmode : s.config.drainMode = .loop) (k : Nat) : rxPasses (k + 1) s = rxPasses k (rxDeliver f { s with rxbuf := rest }) := by
  simp only [rxPasses, h, hmode]

/-- The bound on the passes does not matter once it exceeds the accumulator's length: each extracted frame shortens the accumulator. -/
theorem rxPasses_bound_irrelevant {k m : Nat} {s : State} (hk : s.rxbuf.length < k) (hm : s.rxbuf.length < m) :
    rxPasses k s = rxPasses m s := by
  induction k generalizing m s with
  | zero => exact absurd hk (Nat.not_lt_zero _)
  | succ k ih =>
    obtain ⟨m, rfl⟩ := Nat.exists_eq_add_one_of_ne_zero (Nat.ne_zero_of_lt hm)
    cases hscan : rxScan s.config s.rxbuf with
    | wait keep => rw [rxPasses_of_wait hscan, rxPasses_of_wait hscan]
    | frame f rest =>
      have hrest := length_rest_of_rxScan_frame hscan
      cases hmode : s.config.drainMode with
      | single => rw [rxPasses_of_frame_single hscan hmode, rxPasses_of_frame_single hscan hmode]
      | loop =>
        rw [rxPasses_of_frame_loop hscan hmode, rxPasses_of_frame_loop hscan hmode]
        refine ih ?_ ?_ <;> rw [rxDeliver_rxbuf] <;> dsimp only <;> omega

/-! ## RX_PUSH (R103) -/

theorem exec_rxPush (chunk : List Byte) (s : State) : exec (.rxPush chunk) s = .next (gives .none (receiveChunk chunk s)) := rfl

/-- R114: the machine's capacity check is the claims'. -/
theorem rxOverflows_eq_false_iff (s : State) (chunk : List Byte) :
    rxOverflows s.config.rxbufCap s.rxbuf.length chunk.length = false ↔ chunkFits s chunk := by
  unfold chunkFits
  cases s.config.rxbufCap <;> simp [rxOverflows]

theorem receiveChunk_of_overflow {s : State} {chunk : List Byte} (h : ¬ chunkFits s chunk) :
    receiveChunk chunk s = emitEvt (.rxError .rxOverflow (.chunk chunk.length)) s := by
  rw [← rxOverflows_eq_false_iff, Bool.not_eq_false] at h
  exact if_pos h

theorem receiveChunk_of_fits {s : State} {chunk : List Byte} (h : chunkFits s chunk) :
    receiveChunk chunk s = rxPasses (s.rxbuf.length + chunk.length + 1) { s with rxbuf := s.rxbuf ++ chunk } := by
  rw [receiveChunk, (rxOverflows_eq_false_iff s chunk).2 h]
  rfl

/-- Where the accumulator and a chunk fit together, a state with no more bytes than these has room too. -/
theorem chunkFits_of_length_le {s t : State} {chunk rest : List Byte} (h : chunkFits s chunk) (hcfg : t.config = s.config)
    (hle : t.rxbuf.length + rest.length ≤ (s.rxbuf ++ chunk).length) : chunkFits t rest := by
  intro cap hcap
  have hroom := h cap (hcfg ▸ hcap)
  rw [List.length_append] at hle
  omega

/-- R111: a push whose scan finds no frame keeps what the scan keeps, and does nothing else. -/
theorem receiveChunk_of_wait {s : State} {chunk keep : List Byte} (hfits : chunkFits s chunk)
    (hscan : rxScan s.config (s.rxbuf ++ chunk) = .wait keep) : receiveChunk chunk s = { s with rxbuf := keep } := by
  rw [receiveChunk_of_fits hfits, rxPasses_of_wait hscan]

/-- R108 to R112: a push whose scan finds a frame delivers it, and in LOOP mode goes on as a push of nothing would. -/
theorem receiveChunk_of_frame {s : State} {chunk f rest : List Byte} (hfits : chunkFits s chunk)
    (hscan : rxScan s.config (s.rxbuf ++ chunk) = .frame f rest) :
    receiveChunk chunk s = drained (rxDeliver f { s with rxbuf := rest }) := by
  have hrest := length_rest_of_rxScan_frame hscan
  rw [receiveChunk_of_fits hfits]
  cases hmode : s.config.drainMode with
  | single =>
    rw [rxPasses_of_frame_single (s := { s with rxbuf := s.rxbuf ++ chunk }) hscan hmode]
    simp only [drained, rxDeliver_config, hmode]
  | loop =>
    have hroom : chunkFits (rxDeliver f { s with rxbuf := rest }) [] :=
      chunkFits_of_length_le hfits (rxDeliver_config f _) (by rw [rxDeliver_rxbuf]; exact hrest.le)
    rw [rxPasses_of_frame_loop (s := { s with rxbuf := s.rxbuf ++ chunk }) hscan hmode]
    simp only [drained, rxDeliver_config, hmode]
    rw [receiveChunk_of_fits hroom, List.append_nil]
    rw [List.length_append] at hrest
    refine rxPasses_bound_irrelevant ?_ ?_ <;> simp only [rxDeliver_rxbuf, List.length_nil] <;> omega

/-- What a push does comes from what its scan finds: with another accumulator and chunk in which a scan finds the same, it does the same. -/
theorem receiveChunk_congr {s : State} {buf chunk chunk' : List Byte} (hfits : chunkFits s chunk)
    (hfits' : chunkFits { s with rxbuf := buf } chunk')
    (hscan : rxScan s.config (s.rxbuf ++ chunk) = rxScan s.config (buf ++ chunk')) :
    receiveChunk chunk s = receiveChunk chunk' { s with rxbuf := buf } := by
  cases hfound : rxScan s.config (s.rxbuf ++ chunk) with
  | wait keep => rw [receiveChunk_of_wait hfits hfound, receiveChunk_of_wait hfits' (hscan.symm.trans hfound)]
  | frame f rest => rw [receiveChunk_of_frame hfits hfound, receiveChunk_of_frame hfits' (hscan.symm.trans hfound)]

/-- R108 to R110, R112: a push that has a whole frame at the head of the accumulator. -/
theorem receiveChunk_of_wireBytes {s : State} {chunk : List Byte} {l c id : Byte} {p : List Byte} {x : Byte} {rest : List Byte}
    (hfits : chunkFits s chunk) (hbuf : s.rxbuf ++ chunk = wireBytes l c id p x ++ rest) (hp : p.length = l.toNat)
    (hmin : s.config.minFrameLen < (s.rxbuf ++ chunk).length) :
    receiveChunk chunk s = drained (extracted l c id p x { s with rxbuf := rest }) := by
  rw [hbuf] at hmin
  rw [receiveChunk_of_frame hfits (hbuf ▸ rxScan_wireBytes hp c id x hmin), rxDeliver_wireBytes]

/-- Settles O13: the capacity is checked before the append, and an empty accumulator holds nothing to scan. -/
theorem overflowRefusesChunk : Obligations.OverflowRefusesChunk := by
  constructor
  · intro s chunk cap hcap hover
    have hfull : ¬ chunkFits s chunk := fun h => absurd (h cap hcap) (by omega)
    rw [exec_rxPush, receiveChunk_of_overflow hfull]
    rfl
  · intro s hempty
    have hfits : chunkFits s [] := fun cap _ => by rw [hempty]; exact Nat.zero_le cap
    have hscan : rxScan s.config (s.rxbuf ++ []) = .wait s.rxbuf := by rw [hempty]; exact rxScan_nil _
    rw [exec_rxPush, receiveChunk_of_wait hfits hscan]

/-- Settles O10: the scan keeps the whole accumulator in both cases. -/
theorem partialFramesWait : Obligations.PartialFramesWait := by
  intro s chunk hfits hmarker hpartial
  rw [exec_rxPush, receiveChunk_of_wait hfits (rxScan_partial hmarker hpartial)]

/-- Settles O11: the accumulator begins with the bytes of a whole frame. -/
theorem wholeFrameIsExtracted : Obligations.WholeFrameIsExtracted := by
  intro s chunk l c id p x rest hfits hbuf hp hmin
  rw [exec_rxPush, receiveChunk_of_wireBytes hfits hbuf hp hmin]

/-- Settles O12: the two modes differ in what the scan finds behind the noise. -/
theorem resynchronisationDropsNoise : Obligations.ResynchronisationDropsNoise := by
  refine ⟨?_, ?_, ?_⟩
  · intro s chunk b hmode hfits hhead hb
    obtain ⟨tail, htail⟩ := List.head?_eq_some_iff.1 hhead
    rw [exec_rxPush, receiveChunk_of_wait hfits (htail ▸ rxScan_discardAll hmode hb tail)]
  · intro s chunk noise tail hmode hfits hbuf _ hnoise
    have hfits' : chunkFits { s with rxbuf := 0xFE :: tail } [] := by
      refine chunkFits_of_length_le hfits rfl ?_
      rw [hbuf, List.length_append]
      exact Nat.le_add_left _ _
    have hscan : rxScan s.config (s.rxbuf ++ chunk) = rxScan s.config (0xFE :: tail ++ []) := by
      rw [hbuf, List.append_nil, rxScan_scanForward hmode, scanToMarker_noise hnoise, ← rxScan_scanForward hmode]
    rw [exec_rxPush, receiveChunk_congr hfits hfits' hscan]
  · intro s chunk hmode hfits hnoise
    have hscan : rxScan s.config (s.rxbuf ++ chunk) = .wait [] := by
      have hdropped := scanToMarker_noise hnoise []
      rw [List.append_nil] at hdropped
      rw [rxScan_scanForward hmode, hdropped]
      rfl
    rw [exec_rxPush, receiveChunk_of_wait hfits hscan]

/-! ## The round trip of a Frame (R116) -/

theorem frame_valid_iff (f : Frame) : f.valid = true ↔ f.length.toNat = f.payload.length ∧ f.checksum = f.properChecksum := by
  rw [Frame.valid, Bool.and_eq_true, decide_eq_true_iff, decide_eq_true_iff]

/-- R102: a valid Frame's encoding carries the length and the checksum that the Frame stores. -/
theorem encodeFrame_of_valid {f : Frame} (hvalid : f.valid = true) (htype : f.commandType.toNat ≤ 3) :
    encodeFrame f = .ok (wireBytes f.length (cmd f.commandType f.subsystem) f.commandId f.payload f.checksum) := by
  obtain ⟨hlength, hchecksum⟩ := (frame_valid_iff f).1 hvalid
  have hfits : f.payload.length ≤ 255 := by
    have := f.length.isLt
    omega
  rw [encodeFrame, frameEncode_of_fits htype hfits, ← hlength, BitVec.ofNat_toNat, BitVec.ofNat_toNat, BitVec.setWidth_eq,
    BitVec.setWidth_eq, cmd0_toNat, hchecksum, Frame.properChecksum, cmd0_toNat]

/-- R109, R115: the bytes of a valid Frame are delivered as that Frame. -/
theorem extracted_of_valid {f : Frame} (hvalid : f.valid = true) (s : State) :
    extracted f.length (cmd f.commandType f.subsystem) f.commandId f.payload f.checksum s = frameReceived f s := by
  obtain ⟨_, hchecksum⟩ := (frame_valid_iff f).1 hvalid
  have hsum : f.checksum = fold ([f.length, cmd f.commandType f.subsystem, f.commandId] ++ f.payload) := by
    rw [fold_eq_xorfold, hchecksum, Frame.properChecksum, cmd0_toNat]
  have htype : (cmd f.commandType f.subsystem).extractLsb' 5 3 = f.commandType := cmd0Type_cmd _ _
  have hsubsystem : (cmd f.commandType f.subsystem).extractLsb' 0 5 = f.subsystem := cmd0Subsystem_cmd _ _
  rw [extracted, if_pos hsum, htype, hsubsystem]

/-- R116: a push that completes the bytes of a valid Frame, whatever part of them the accumulator held before. -/
theorem receiveChunk_of_encodeFrame {s : State} {chunk bytes extra : List Byte} {f : Frame} (hvalid : f.valid = true)
    (htype : f.commandType.toNat ≤ 3) (hbytes : encodeFrame f = .ok bytes) (hfits : chunkFits s chunk)
    (hbuf : s.rxbuf ++ chunk = bytes ++ extra) (hmin : s.config.minFrameLen = 5) (hextra : f.payload = [] → extra ≠ []) :
    receiveChunk chunk s = drained (frameReceived f { s with rxbuf := extra }) := by
  rw [encodeFrame_of_valid hvalid htype] at hbytes
  cases hbytes
  have hlonger : s.config.minFrameLen < (s.rxbuf ++ chunk).length := by
    rw [hmin, hbuf, List.length_append, length_wireBytes]
    cases hpayload : f.payload with
    | nil =>
      have := List.length_pos_iff.2 (hextra hpayload)
      omega
    | cons b bs =>
      rw [List.length_cons]
      omega
  rw [receiveChunk_of_wireBytes hfits hbuf ((frame_valid_iff f).1 hvalid).1.symm hlonger, extracted_of_valid hvalid]

/-- R111: a push of a proper beginning of a Frame's bytes into an empty accumulator only waits. -/
theorem receiveChunk_of_beginning {s : State} {bytes a b : List Byte} {f : Frame} (hvalid : f.valid = true)
    (htype : f.commandType.toNat ≤ 3) (hbytes : encodeFrame f = .ok bytes) (hfits : chunkFits s a) (hempty : s.rxbuf = [])
    (hmin : 1 ≤ s.config.minFrameLen) (hsplit : bytes = a ++ b) (hb : b ≠ []) : receiveChunk a s = { s with rxbuf := a } := by
  rw [encodeFrame_of_valid hvalid htype] at hbytes
  cases hbytes
  have hscan : rxScan s.config (s.rxbuf ++ a) = .wait a := by
    rw [hempty]
    exact rxScan_beginning hmin ((frame_valid_iff f).1 hvalid).1.symm hsplit hb
  exact receiveChunk_of_wait hfits hscan

/-- Settles O14: the whole push and the second of two are pushes that complete the Frame's bytes, the first of two is one of a proper beginning of
them. -/
theorem frameRoundTripThroughChunks : Obligations.FrameRoundTripThroughChunks := by
  intro s f bytes extra a b hvalid htype hbytes hempty hmin hcap hextra hsplit hb
  have hroom : ∀ (t : State) (chunk : List Byte), t.config = s.config →
      t.rxbuf.length + chunk.length ≤ bytes.length + extra.length → chunkFits t chunk :=
    fun t chunk hcfg hle cap hmem => hle.trans (hcap cap (hcfg ▸ hmem))
  have hlength : bytes.length = a.length + b.length := by rw [hsplit, List.length_append]
  refine ⟨?_, ?_, ?_⟩
  · have hfits : chunkFits s (bytes ++ extra) := hroom s _ rfl (by simp [hempty])
    rw [exec_rxPush, receiveChunk_of_encodeFrame hvalid htype hbytes hfits (by rw [hempty, List.nil_append]) hmin hextra]
  · have hfits : chunkFits s a := hroom s _ rfl (by simp only [hempty, List.length_nil]; omega)
    rw [exec_rxPush, receiveChunk_of_beginning hvalid htype hbytes hfits hempty (by omega) hsplit hb]
  · have hfits : chunkFits (gives .none { s with rxbuf := a }) (b ++ extra) :=
      hroom _ _ rfl (by simp only [List.length_append]; omega)
    have hbuf : (gives .none { s with rxbuf := a }).rxbuf ++ (b ++ extra) = bytes ++ extra := by rw [hsplit, List.append_assoc]
    rw [exec_rxPush, receiveChunk_of_encodeFrame hvalid htype hbytes hfits hbuf hmin hextra]

end Sys2Proof.Proofs
end

section
/-! PROOFS. The Parameter Codec's integer, identifier and buffer tags (spec/41_parameter_codec.md R140 to R161, R176 to R181). The bytes and numbers
of the machine are shown to be those of the claims once, for every width; each tag then follows from one lemma for its shape. -/

namespace Sys2Proof.Proofs

open Sys2Proof Sys2Proof.Machine Sys2Proof.Claim

/-! ## Little-endian bytes (R9, R133) -/

/-- The claims' bytes of a number, by the recursion of the machine's. -/
theorem intBytes_succ (k : Nat) (n : Int) : Claim.intBytes (k + 1) n = BitVec.ofInt 8 n :: Claim.intBytes k (n / 256) := by
  have hquot (i : Nat) : n / 256 ^ (i + 1) = n / 256 / 256 ^ i := by
    rw [pow_succ', ← Int.ediv_ediv_of_nonneg (by decide)]
  simp [Claim.intBytes, List.range_succ_eq_map, Function.comp_def, hquot]

/-- The low byte does not see what is a multiple of 256. -/
theorem ofInt_eight_emod {m : Int} (h : 256 ∣ m) (n : Int) : BitVec.ofInt 8 (n % m) = BitVec.ofInt 8 n := by
  apply BitVec.eq_of_toNat_eq
  rw [BitVec.toNat_ofInt, BitVec.toNat_ofInt]
  exact congrArg Int.toNat (Int.emod_emod_of_dvd n h)

/-- Without its low byte, a number kept to `k + 1` bytes is the quotient by 256 kept to `k` bytes. -/
theorem emod_pow_succ_ediv (k : Nat) (n : Int) : n % 256 ^ (k + 1) / 256 = n / 256 % 256 ^ k := by
  have hpos : (0 : Int) < 256 ^ k := by positivity
  have hsplit := Int.mul_ediv_add_emod n (256 ^ (k + 1))
  have hlo := Int.emod_nonneg n (pow_ne_zero (k + 1) (by decide : (256 : Int) ≠ 0))
  have hhi := Int.emod_lt_of_pos n (pow_pos (by decide : (0 : Int) < 256) (k + 1))
  rw [pow_succ', mul_assoc] at hsplit
  rw [pow_succ'] at hlo hhi ⊢
  generalize n % (256 * 256 ^ k) = r at hsplit hlo hhi ⊢
  generalize n / (256 * 256 ^ k) = q at hsplit
  have hquot : n / 256 = r / 256 + 256 ^ k * q := by omega
  rw [hquot, Int.add_mul_emod_self_left, Int.emod_eq_of_lt (by omega) (by omega)]

/-- R133: the machine reduces the number to its width first, the claims let every byte do so. -/
theorem leBytes_emod (k : Nat) (n : Int) : leBytes k (n % 256 ^ k).toNat = Claim.intBytes k n := by
  induction k generalizing n with
  | zero => rfl
  | succ k ih =>
    have hnonneg : 0 ≤ n % 256 ^ (k + 1) := Int.emod_nonneg n (by positivity)
    have hlow : BitVec.ofNat 8 (n % 256 ^ (k + 1)).toNat = BitVec.ofInt 8 n := by
      rw [← BitVec.ofInt_natCast, Int.toNat_of_nonneg hnonneg, ofInt_eight_emod (dvd_pow_self _ k.succ_ne_zero)]
    have hrest : (n % 256 ^ (k + 1)).toNat / 256 = (n / 256 % 256 ^ k).toNat := by
      rw [← emod_pow_succ_ediv]
      omega
    rw [leBytes, hlow, hrest, ih, intBytes_succ]

theorem intBytes_eq (k : Nat) (n : Int) : Sys2Proof.intBytes (8 * k) n = Claim.intBytes k n := by
  rw [Sys2Proof.intBytes, Nat.mul_div_cancel_left k (by decide), pow_mul]
  exact leBytes_emod k n

theorem sum_zipIdx_eq (l : List Byte) (i : Nat) :
    ((l.zipIdx i).map (fun e => e.1.toNat * 256 ^ e.2)).sum = 256 ^ i * leValue l := by
  induction l generalizing i with
  | nil => rfl
  | cons b l ih =>
    rw [List.zipIdx_cons, List.map_cons, List.sum_cons, ih, leValue]
    ring

theorem natOf_eq_leValue (l : List Byte) : natOf l = leValue l := by
  rw [natOf, sum_zipIdx_eq, pow_zero, one_mul]

theorem leValue_lt (l : List Byte) : leValue l < 2 ^ (8 * l.length) := by
  induction l with
  | nil => decide
  | cons b l ih =>
    have hb := b.isLt
    rw [leValue, List.length_cons, Nat.mul_succ, pow_add]
    omega

/-- R9: the machine's two's complement is that of a bit vector. -/
theorem sext_eq_toInt {w v : Nat} (h : v < 2 ^ w) : sext w v = (BitVec.ofNat w v).toInt := by
  rw [BitVec.toInt_eq_toNat_cond, BitVec.toNat_ofNat, Nat.mod_eq_of_lt h, sext]
  cases w with
  | zero =>
    obtain rfl : v = 0 := by omega
    rfl
  | succ w =>
    rw [Nat.add_sub_cancel, pow_succ]
    by_cases hsign : 2 ^ w ≤ v
    · rw [if_pos hsign, if_neg (by omega), Nat.cast_pow, Nat.cast_ofNat, pow_succ]
    · rw [if_neg hsign, if_pos (by omega)]

/-- R133: the machine's integer of some bytes is the claims'. -/
theorem intOfBytes_eq (signed : Bool) (l : List Byte) : intOfBytes (8 * l.length) signed l = intOf signed l := by
  cases signed with
  | false => simp only [intOfBytes, intOf, natOf_eq_leValue, Bool.false_eq_true, if_false]
  | true => simp only [intOfBytes, intOf, natOf_eq_leValue, if_true, sext_eq_toInt (leValue_lt l)]

/-! ## Cursor reads (R9) -/

theorem length_slice {b : List Byte} {p k : Nat} (h : p + k ≤ b.length) : (slice b p k).length = k := by
  rw [slice, List.length_take, List.length_drop]
  omega

theorem slice_append (w x tail : List Byte) : slice (w ++ x ++ tail) w.length x.length = x := by
  simp [slice]

theorem cursorRead_of_le {b : List Byte} {p k : Nat} (h : p + k ≤ b.length) : cursorRead b p k = .ok (slice b p k, p + k) :=
  if_neg (by omega)

theorem cursorRead_of_lt {b : List Byte} {p k : Nat} (h : b.length < p + k) : cursorRead b p k = .error (.bufferUnderrun p k) :=
  if_pos h

theorem readInt_of_le {b : List Byte} {p k : Nat} (h : p + k ≤ b.length) (signed : Bool) :
    readInt (8 * k) signed b p = .ok (intOf signed (slice b p k), p + k) := by
  have hvalue := intOfBytes_eq signed (slice b p k)
  rw [length_slice h] at hvalue
  rw [readInt, Nat.mul_div_cancel_left k (by decide), cursorRead_of_le h, ← hvalue]

theorem readInt_of_lt {b : List Byte} {p k : Nat} (h : b.length < p + k) (signed : Bool) :
    readInt (8 * k) signed b p = .error (.bufferUnderrun p k) := by
  rw [readInt, Nat.mul_div_cancel_left k (by decide), cursorRead_of_lt h]

/-! ## Outcomes (R130, R131) -/

@[simp] theorem readOp_ok (v : Value) (p : Nat) (s : State) : readOp (.ok (v, p)) s = gives (.read v p) s := rfl

@[simp] theorem readOp_error (e : Err) (s : State) : readOp (.error e) s = fails e s := rfl

theorem writeOp_ok {v : Value} (hv : v.wf = true) (op : Byte) (bytes : List Byte) (s : State) :
    writeOp op v (.ok bytes) s = gives (.bytes bytes) s := by
  rw [writeOp, hv]
  rfl

theorem writeOp_error {v : Value} (hv : v.wf = true) (op : Byte) (e : Err) (s : State) :
    writeOp op v (.error e) s = fails e s := by
  rw [writeOp, hv]
  rfl

/-! ## Kinds (R130, R142) -/

/-- The kind check of an integer tag is the claims' `number`. -/
theorem asInt_eq (tag : Tag) (v : Value) :
    asInt tag v = (number false v).elim (.error (.schemaError (.wrongKind tag.toNat))) .ok := by
  cases v <;> rfl

/-- The kind check of a tag that takes a network address too. -/
theorem asIntOrNwk_eq (tag : Tag) (v : Value) :
    asIntOrNwk tag v = (number true v).elim (.error (.schemaError (.wrongKind tag.toNat))) .ok := by
  cases v <;> rfl

theorem number_eq_none {nwk : Bool} {v : Value} (hint : ∀ n, v ≠ .int n) (hnwk : nwk = true → ∀ a, v ≠ .nwk a) :
    number nwk v = none := by
  cases v with
  | int n => exact absurd rfl (hint n)
  | nwk a =>
    cases nwk with
    | false => rfl
    | true => exact absurd rfl (hnwk rfl a)
  | eui | bytes | list | record => rfl

/-! ## The integer tags written (R140 to R144, R176 to R180) -/

theorem intInRange_unsigned_iff (bits : Nat) (n : Int) : intInRange bits false n = true ↔ 0 ≤ n ∧ n ≤ 2 ^ bits - 1 := by
  rw [intInRange, if_neg Bool.false_ne_true, decide_eq_true_iff, Int.le_sub_one_iff]

theorem intInRange_signed_iff (bits : Nat) (n : Int) :
    intInRange bits true n = true ↔ -(2 ^ (bits - 1)) ≤ n ∧ n ≤ 2 ^ (bits - 1) - 1 := by
  rw [intInRange, if_pos rfl, decide_eq_true_iff, Int.le_sub_one_iff]

theorem writeInt_of_range {k : Nat} {signed : Bool} {n : Int} (h : intInRange (8 * k) signed n = true) (w : List Byte) :
    writeInt (8 * k) signed n w = .ok (w ++ Claim.intBytes k n) := by
  rw [writeInt, if_pos h, intBytes_eq]

theorem writeInt_of_not_range {bits : Nat} {signed : Bool} {n : Int} (h : ¬ intInRange bits signed n = true) (w : List Byte) :
    writeInt bits signed n w = .error (.valueOutOfRange bits signed n) := if_neg h

/-- The outcome of an instruction that writes the number of a value, where it has one, as an integer of `bits` bits. -/
def WritesNumber (mk : Value → List Byte → Instr) (op : Byte) (tag bits : Nat) (signed nwk : Bool) : Prop :=
  ∀ (v : Value) (w : List Byte) (s : State), exec (mk v w) s =
    .next (writeOp op v ((number nwk v).elim (.error (.schemaError (.wrongKind tag))) (writeInt bits signed · w)) s)

theorem writesNumber_of_writeIntTag {mk : Value → List Byte → Instr} {op : Byte} {tag : Tag} {bits : Nat} {signed : Bool}
    (hexec : ∀ v w s, exec (mk v w) s = .next (writeOp op v (writeIntTag tag bits signed v w) s)) :
    WritesNumber mk op tag.toNat bits signed false := by
  intro v w s
  rw [hexec, writeIntTag, asInt_eq]
  cases number false v <;> rfl

theorem exec_pwriteUint16 (v : Value) (w : List Byte) (s : State) :
    exec (.pwriteUint16 v w) s = .next (writeOp 0x21 v (pwriteUint16 v w) s) := rfl

/-- R142: a network address is written as its number. -/
theorem pwriteUint16_writesNumber : WritesNumber .pwriteUint16 0x21 1 16 false true := by
  intro v w s
  rw [exec_pwriteUint16, pwriteUint16, asIntOrNwk_eq]
  cases number true v <;> rfl

/-- R130, R133: the range, the bytes and the kinds of an integer tag, from its number's write and from the bounds of its range. -/
theorem writesInt_of_writesNumber {mk : Value → List Byte → Instr} {op : Byte} {tag k : Nat} {lo hi : Int} {nwk : Bool}
    (hwrites : WritesNumber mk op tag (8 * k) (decide (lo < 0)) nwk)
    (hrange : ∀ n, intInRange (8 * k) (decide (lo < 0)) n = true ↔ lo ≤ n ∧ n ≤ hi)
    (haddress : nwk = true → ∀ a : BitVec 16, lo ≤ a.toNat ∧ a.toNat ≤ hi) : WritesInt mk tag k lo hi nwk := by
  intro w s
  refine ⟨?_, ?_, ?_, ?_⟩
  · intro n hlo hhi
    rw [hwrites, number, Option.elim_some, writeInt_of_range ((hrange n).2 ⟨hlo, hhi⟩), writeOp_ok rfl]
  · intro n hout
    have hnot : ¬ intInRange (8 * k) (decide (lo < 0)) n = true := by
      rw [hrange]
      omega
    rw [hwrites, number, Option.elim_some, writeInt_of_not_range hnot, writeOp_error rfl]
  · intro hnwk a
    rw [hwrites, number, if_pos hnwk, Option.elim_some, writeInt_of_range ((hrange _).2 (haddress hnwk a)), writeOp_ok rfl]
  · intro v hv hint hnotNwk
    rw [hwrites, number_eq_none hint hnotNwk, Option.elim_none, writeOp_error hv]

/-- Settles O16: all six write the value's number; their ranges are those of their widths, and every network address is in the range of 16 bits. -/
theorem integerTagsWriteBytes : Obligations.IntegerTagsWriteBytes := by
  refine ⟨?_, ?_, ?_, ?_, ?_, ?_⟩
  · exact writesInt_of_writesNumber (writesNumber_of_writeIntTag (tag := .uint8) fun _ _ _ => rfl) (intInRange_unsigned_iff 8) nofun
  · exact writesInt_of_writesNumber pwriteUint16_writesNumber (intInRange_unsigned_iff 16) fun _ a => by omega
  · exact writesInt_of_writesNumber (writesNumber_of_writeIntTag (tag := .uint32) fun _ _ _ => rfl) (intInRange_unsigned_iff 32) nofun
  · exact writesInt_of_writesNumber (writesNumber_of_writeIntTag (tag := .int8) fun _ _ _ => rfl) (intInRange_signed_iff 8) nofun
  · exact writesInt_of_writesNumber (writesNumber_of_writeIntTag (tag := .int16) fun _ _ _ => rfl) (intInRange_signed_iff 16) nofun
  · exact writesInt_of_writesNumber (writesNumber_of_writeIntTag (tag := .int32) fun _ _ _ => rfl) (intInRange_signed_iff 32) nofun

/-! ## The integer tags read (R141 to R145, R177 to R181) -/

/-- R131, R133: an integer tag that heeds no option. -/
theorem readsInt_of_readIntTag {mk : ReadOpts → List Byte → Nat → Instr} {k : Nat} {signed : Bool}
    (hexec : ∀ o b p s, exec (mk o b p) s = .next (readOp (readIntTag (8 * k) signed b p) s)) : ReadsInt mk k signed false := by
  intro o b p s
  refine ⟨?_, nofun, ?_⟩
  · intro hle _
    rw [hexec, readIntTag, readInt_of_le hle, readOp_ok]
  · intro hlt
    rw [hexec, readIntTag, readInt_of_lt hlt, readOp_error]

theorem exec_preadUint16 (o : ReadOpts) (b : List Byte) (p : Nat) (s : State) :
    exec (.preadUint16 o b p) s = .next (readOp (preadUint16 o b p) s) := rfl

/-- R143: the network-address tag comes from the option, the number from the bytes. -/
theorem preadUint16_of_le {b : List Byte} {p : Nat} (h : p + 2 ≤ b.length) (o : ReadOpts) :
    preadUint16 o b p =
      .ok (if o.isAddress then .nwk (BitVec.ofNat 16 (natOf (slice b p 2))) else .int (natOf (slice b p 2)), p + 2) := by
  rw [preadUint16, readInt_of_le (k := 2) h false, ← BitVec.ofInt_natCast]
  rfl

theorem preadUint16_of_lt {b : List Byte} {p : Nat} (h : b.length < p + 2) (o : ReadOpts) :
    preadUint16 o b p = .error (.bufferUnderrun p 2) := by
  rw [preadUint16, readInt_of_lt (k := 2) h false]

theorem preadUint16_readsInt : ReadsInt .preadUint16 2 false true := by
  intro o b p s
  rw [Bool.true_and]
  refine ⟨?_, ?_, ?_⟩
  · intro hle haddress
    rw [exec_preadUint16, preadUint16_of_le hle, haddress, if_neg Bool.false_ne_true, readOp_ok]
    rfl
  · intro hle haddress
    rw [exec_preadUint16, preadUint16_of_le hle, haddress, if_pos rfl, readOp_ok]
  · intro hlt
    rw [exec_preadUint16, preadUint16_of_lt hlt, readOp_error]

/-- Settles O17: five tags read an integer and heed no option, UINT16 alone has the address option. -/
theorem integerTagsReadBytes : Obligations.IntegerTagsReadBytes := by
  refine ⟨?_, preadUint16_readsInt, ?_, ?_, ?_, ?_⟩
  all_goals exact readsInt_of_readIntTag fun _ _ _ _ => rfl

/-! ## Identifiers (R146, R147) -/

theorem pwriteIeeeaddr_of_wrongKind {v : Value} (h : ∀ t, v ≠ .eui t) (w : List Byte) :
    pwriteIeeeaddr v w = .error (.schemaError (.wrongKind 3)) := by
  cases v with
  | eui t => exact absurd rfl (h t)
  | int | nwk | bytes | list | record => rfl

theorem exec_pwriteIeeeaddr (v : Value) (w : List Byte) (s : State) :
    exec (.pwriteIeeeaddr v w) s = .next (writeOp 0x23 v (pwriteIeeeaddr v w) s) := rfl

theorem exec_preadIeeeaddr (o : ReadOpts) (b : List Byte) (p : Nat) (s : State) :
    exec (.preadIeeeaddr o b p) s = .next (readOp (preadIeeeaddr b p) s) := rfl

/-- R147: the bytes of an identifier are read back, wherever they stand. -/
theorem preadIeeeaddr_append (w tail : List Byte) (t : Eui) :
    preadIeeeaddr (w ++ euiBytes t ++ tail) w.length = .ok (.eui t, w.length + 8) := by
  have hle : w.length + 8 ≤ (w ++ euiBytes t ++ tail).length := by
    simp only [List.length_append, euiBytes, List.length_cons, List.length_nil]
    omega
  have hslice : slice (w ++ euiBytes t ++ tail) w.length 8 = euiBytes t := slice_append w (euiBytes t) tail
  rw [preadIeeeaddr, cursorRead_of_le hle, hslice]
  rfl

theorem preadIeeeaddr_of_lt {b : List Byte} {p : Nat} (h : b.length < p + 8) : preadIeeeaddr b p = .error (.bufferUnderrun p 8) := by
  rw [preadIeeeaddr, cursorRead_of_lt h]

/-- Settles O18: any eight bytes are the wire bytes of the identifier with the reversed textual order. -/
theorem identifierBytesReversed : Obligations.IdentifierBytesReversed := by
  refine ⟨?_, ?_, ?_, ?_⟩
  · intro t w s
    rw [exec_pwriteIeeeaddr, pwriteIeeeaddr, writeOp_ok rfl, euiBytes]
  · intro v w s hv hkind
    rw [exec_pwriteIeeeaddr, pwriteIeeeaddr_of_wrongKind hkind, writeOp_error hv]
  · intro o w tail b0 b1 b2 b3 b4 b5 b6 b7 s
    have hwire : [b0, b1, b2, b3, b4, b5, b6, b7] = euiBytes ⟨b7, b6, b5, b4, b3, b2, b1, b0⟩ := rfl
    rw [exec_preadIeeeaddr, hwire, preadIeeeaddr_append, readOp_ok]
  · intro o b p s hlt
    rw [exec_preadIeeeaddr, preadIeeeaddr_of_lt hlt, readOp_error]

/-! ## Buffers (R148 to R161) -/

theorem writeBytesTag_of_wrongKind {v : Value} (h : ∀ x, v ≠ .bytes x) (tag : Tag) (w : List Byte) :
    writeBytesTag tag v w = .error (.schemaError (.wrongKind tag.toNat)) := by
  cases v with
  | bytes x => exact absurd rfl (h x)
  | int | nwk | eui | list | record => rfl

theorem readBytesTag_of_le {b : List Byte} {p n : Nat} (h : p + n ≤ b.length) :
    readBytesTag n b p = .ok (.bytes (slice b p n), p + n) := by
  rw [readBytesTag, cursorRead_of_le h]

theorem readBytesTag_of_lt {b : List Byte} {p n : Nat} (h : b.length < p + n) : readBytesTag n b p = .error (.bufferUnderrun p n) := by
  rw [readBytesTag, cursorRead_of_lt h]

/-- R148, R150: the size of a buffer tag plays no part in its write. -/
theorem writesBytes_of_writeBytesTag {mk : Value → List Byte → Instr} {op : Byte} {tag : Tag}
    (hexec : ∀ v w s, exec (mk v w) s = .next (writeOp op v (writeBytesTag tag v w) s)) : WritesBytes mk tag.toNat := by
  intro w s
  refine ⟨?_, ?_⟩
  · intro x
    rw [hexec, writeBytesTag, asBytes, writeOp_ok rfl]
  · intro v hv hkind
    rw [hexec, writeBytesTag_of_wrongKind hkind, writeOp_error hv]

theorem readsBytes_of_readBytesTag {mk : ReadOpts → List Byte → Nat → Instr} {n : Nat}
    (hexec : ∀ o b p s, exec (mk o b p) s = .next (readOp (readBytesTag n b p) s)) : ReadsBytes mk n := by
  intro o b p s
  refine ⟨?_, ?_⟩
  · intro hle
    rw [hexec, readBytesTag_of_le hle, readOp_ok]
  · intro hlt
    rw [hexec, readBytesTag_of_lt hlt, readOp_error]

theorem exec_preadBuffer (o : ReadOpts) (b : List Byte) (p : Nat) (s : State) :
    exec (.preadBuffer o b p) s = .next (readOp (preadBuffer o b p) s) := rfl

/-- R149: with its length option, the generic buffer is a buffer of that size. -/
theorem preadBuffer_of_some {o : ReadOpts} {n : Nat} (h : o.length = some n) (b : List Byte) (p : Nat) :
    preadBuffer o b p = readBytesTag n b p := by
  rw [preadBuffer, needLength, h]

theorem preadBuffer_of_none {o : ReadOpts} (h : o.length = none) (b : List Byte) (p : Nat) :
    preadBuffer o b p = .error (.schemaError (.missingLength 4)) := by
  rw [preadBuffer, needLength, h]
  rfl

/-- Settles O19: the seven writes are one, the six sized reads are one, and the generic read is theirs once the length option is there. -/
theorem bufferTagsCopyAndRead : Obligations.BufferTagsCopyAndRead := by
  refine ⟨?_, ?_, ?_, ?_, ?_, ?_, ?_, ?_, ?_, ?_, ?_, ?_, ?_, ?_⟩
  · exact writesBytes_of_writeBytesTag (tag := .buffer) fun _ _ _ => rfl
  · exact writesBytes_of_writeBytesTag (tag := .buffer8) fun _ _ _ => rfl
  · exact writesBytes_of_writeBytesTag (tag := .buffer16) fun _ _ _ => rfl
  · exact writesBytes_of_writeBytesTag (tag := .buffer18) fun _ _ _ => rfl
  · exact writesBytes_of_writeBytesTag (tag := .buffer32) fun _ _ _ => rfl
  · exact writesBytes_of_writeBytesTag (tag := .buffer42) fun _ _ _ => rfl
  · exact writesBytes_of_writeBytesTag (tag := .buffer100) fun _ _ _ => rfl
  · intro o b p s
    refine ⟨?_, ?_, ?_⟩
    · intro n hlength hle
      rw [exec_preadBuffer, preadBuffer_of_some hlength, readBytesTag_of_le hle, readOp_ok]
    · intro n hlength hlt
      rw [exec_preadBuffer, preadBuffer_of_some hlength, readBytesTag_of_lt hlt, readOp_error]
    · intro hlength
      rw [exec_preadBuffer, preadBuffer_of_none hlength, readOp_error]
  all_goals exact readsBytes_of_readBytesTag fun _ _ _ _ => rfl

end Sys2Proof.Proofs
end

section
/-! PROOFS. The Command Table and the Command Object unit (spec/42_command_object.md). Each operation checks its operands and answers with the result
of a pure function, so each statement comes down to what that function gives. For the lookups this is the entry that alone fits the key; for TO_FRAME
it is the encode walk, whose writes are what the operations PWRITE return. -/

namespace Sys2Proof.Proofs

open Sys2Proof Sys2Proof.Machine Sys2Proof.Claim

/-! ## The returned outcome -/

theorem returns_inj {r r' : Response} {s : State} (h : returns r s = returns r' s) : r = r' := by
  have hret : s.ret ++ [r] = s.ret ++ [r'] := congrArg State.ret h
  exact List.singleton_inj.1 (List.append_cancel_left hret)

theorem answer_eq_gives_iff (x : Except Err OpResult) (v : OpResult) (s : State) : answer x s = gives v s ↔ x = .ok v := by
  constructor
  · intro h
    cases x with
    | ok u => cases returns_inj h; rfl
    | error e => cases returns_inj h
  · rintro rfl
    rfl

theorem answer_eq_fails_iff (x : Except Err OpResult) (e : Err) (s : State) : answer x s = fails e s ↔ x = .error e := by
  constructor
  · intro h
    cases x with
    | ok u => cases returns_inj h
    | error e' => cases returns_inj h; rfl
  · rintro rfl
    rfl

/-! ## Lookups (R202, R203) -/

/-- A search whose condition one member alone meets finds that member. -/
theorem find?_eq_some_of_unique {α : Type} {f : α → Bool} {l : List α} {e : α} (he : e ∈ l) (h : ∀ d ∈ l, f d = true ↔ d = e) :
    l.find? f = some e := by
  cases hfind : l.find? f with
  | none => exact absurd ((h e he).2 rfl) (List.find?_eq_none.1 hfind e he)
  | some d => rw [(h d (List.mem_of_find?_eq_some hfind)).1 (List.find?_some hfind)]

theorem lookupById_of_entry {s : State} {u k : Nat} {e : CommandSpec} (h : entryOfId s u k e) :
    lookupById s.cmdTable u k = .ok e := by
  obtain ⟨hmem, huniq⟩ := h
  rw [lookupById, find?_eq_some_of_unique hmem fun d hd => by simpa using huniq d hd]

theorem lookupById_of_absent {tbl : List CommandSpec} {u k : Nat} (h : ∀ d ∈ tbl, ¬(d.subsystem.toNat = u ∧ d.wireId.toNat = k)) :
    lookupById tbl u k = .error (.unknownCommand (.byId u k)) := by
  rw [lookupById, List.find?_eq_none.2 fun d hd => by simpa using h d hd]

theorem lookupByName_of_entry {s : State} {u : Nat} {n : String} {e : CommandSpec} (h : entryOfName s u n e) :
    lookupByName s.cmdTable u n = .ok e := by
  obtain ⟨hmem, huniq⟩ := h
  rw [lookupByName, find?_eq_some_of_unique hmem fun d hd => by simpa using huniq d hd]

theorem lookupByName_of_absent {tbl : List CommandSpec} {u : Nat} {n : String}
    (h : ∀ d ∈ tbl, ¬(d.subsystem.toNat = u ∧ d.name = n)) : lookupByName tbl u n = .error (.unknownCommand (.byName u n)) := by
  rw [lookupByName, List.find?_eq_none.2 fun d hd => by simpa using h d hd]

theorem exec_lookupById (u k : Nat) (s : State) :
    exec (.lookupById u k) s =
      .next (checked 0x65 (Operands.lookupById u k) (answer ((lookupById s.cmdTable u k).map .spec)) s) := rfl

theorem exec_lookupById_of_range {u k : Nat} (hu : u < 32) (hk : k ≤ 255) (s : State) :
    exec (.lookupById u k) s = .next (answer ((lookupById s.cmdTable u k).map .spec) s) := by
  have hok : Operands.lookupById u k = true := decide_eq_true ⟨hu, hk⟩
  rw [exec_lookupById, hok, checked_true]

theorem exec_lookupById_of_not_range {u k : Nat} (h : 32 ≤ u ∨ 255 < k) (s : State) :
    exec (.lookupById u k) s = .next (fails (.illegalOperation 0x65) s) := by
  have hbad : Operands.lookupById u k = false := decide_eq_false (by omega)
  rw [exec_lookupById, hbad, checked_false]
  rfl

theorem operands_subsystem_of_lt {u : Nat} (hu : u < 32) : Operands.subsystem u = true := decide_eq_true hu

theorem exec_lookupByName (u : Nat) (n : String) (s : State) :
    exec (.lookupByName u n) s =
      .next (checked 0x66 (Operands.subsystem u) (answer ((lookupByName s.cmdTable u n).map .spec)) s) := rfl

theorem exec_lookupByName_of_range {u : Nat} (hu : u < 32) (n : String) (s : State) :
    exec (.lookupByName u n) s = .next (answer ((lookupByName s.cmdTable u n).map .spec) s) := by
  rw [exec_lookupByName, operands_subsystem_of_lt hu, checked_true]

/-- Settles O25: both searches of the table find the one entry that fits the key, or nothing. -/
theorem lookupsFindTheEntry : Obligations.LookupsFindTheEntry := by
  intro u k n s
  refine ⟨?_, ?_, fun h => exec_lookupById_of_not_range h s, ?_, ?_⟩
  · intro e hu hk hentry
    rw [exec_lookupById_of_range hu hk, lookupById_of_entry hentry]
    rfl
  · intro hu hk habsent
    rw [exec_lookupById_of_range hu hk, lookupById_of_absent habsent]
    rfl
  · intro e hu hentry
    rw [exec_lookupByName_of_range hu, lookupByName_of_entry hentry]
    rfl
  · intro hu habsent
    rw [exec_lookupByName_of_range hu, lookupByName_of_absent habsent]
    rfl

/-! ## FROM_COMMAND (R209) -/

/-- R207, R209: only a declared SRSP takes the response schema. -/
theorem schemaFor_eq_schemaOf (e : CommandSpec) (t : CmdType) : schemaFor e t = schemaOf e t := by
  cases t <;> rfl

theorem exec_fromCommand (u : Nat) (n : String) (m : Fields) (s : State) :
    exec (.fromCommand u n m) s =
      .next (checked 0x62 (Operands.fromCommand u m) (answer ((fromCommand s.cmdTable u n m).map .object)) s) := rfl

theorem exec_fromCommand_of_range {u : Nat} {m : Fields} (hu : u < 32) (hm : m.wf = true) (n : String) (s : State) :
    exec (.fromCommand u n m) s = .next (answer ((fromCommand s.cmdTable u n m).map .object) s) := by
  have hok : Operands.fromCommand u m = true := by rw [Operands.fromCommand, operands_subsystem_of_lt hu, hm, Bool.and_true]
  rw [exec_fromCommand, hok, checked_true]

theorem fromCommand_of_lookup {tbl : List CommandSpec} {u : Nat} {n : String} {e : CommandSpec} (h : lookupByName tbl u n = .ok e)
    (m : Fields) :
    fromCommand tbl u n m = .ok ⟨e.direction, e.subsystem, e.name, e.wireId, m, schemaOf e e.direction, none⟩ := by
  simp only [fromCommand, h, schemaFor_eq_schemaOf]

theorem fromCommand_of_lookup_error {tbl : List CommandSpec} {u : Nat} {n : String} {x : Err} (h : lookupByName tbl u n = .error x)
    (m : Fields) : fromCommand tbl u n m = .error x := by
  rw [fromCommand, h]

/-- Settles O28: the lookup alone decides the outcome, and the payload is handed on unread. -/
theorem fromCommandBindsPayload : Obligations.FromCommandBindsPayload := by
  intro u n m s hu hm
  refine ⟨?_, ?_⟩
  · intro e hentry
    obtain ⟨hmem, huniq⟩ := hentry
    obtain ⟨-, rfl⟩ := (huniq e hmem).2 rfl
    rw [exec_fromCommand_of_range hu hm, fromCommand_of_lookup (lookupByName_of_entry ⟨hmem, huniq⟩)]
    rfl
  · intro habsent
    rw [exec_fromCommand_of_range hu hm, fromCommand_of_lookup_error (lookupByName_of_absent habsent)]
    rfl

/-! ## The discovery path of FROM_CLUSTER (R211, R212) -/

theorem exec_fromCluster (dst profile cluster srcEp dstEp tsn : Nat) (data : List Byte) (s : State) :
    exec (.fromCluster dst profile cluster srcEp dstEp tsn data) s =
      .next (checked 0x63 (Operands.fromCluster dst profile cluster srcEp dstEp tsn)
        (answer ((fromCluster s.cmdTable s.config dst profile cluster srcEp dstEp tsn data).map .object)) s) := rfl

theorem exec_fromCluster_of_range {dst profile cluster srcEp dstEp tsn : Nat} (hdst : dst ≤ 0xFFFF) (hprofile : profile ≤ 0xFFFF)
    (hcluster : cluster ≤ 0xFFFF) (hsrc : srcEp ≤ 255) (hdep : dstEp ≤ 255) (htsn : tsn ≤ 255) (data : List Byte) (s : State) :
    exec (.fromCluster dst profile cluster srcEp dstEp tsn data) s =
      .next (answer ((fromCluster s.cmdTable s.config dst profile cluster srcEp dstEp tsn data).map .object) s) := by
  have hok : Operands.fromCluster dst profile cluster srcEp dstEp tsn = true :=
    decide_eq_true ⟨hdst, hprofile, hcluster, hsrc, hdep, htsn⟩
  rw [exec_fromCluster, hok, checked_true]

/-- R211: with `ZDO_PROFILE` the operation takes the discovery path. -/
theorem exec_fromCluster_of_zdoProfile {dst cluster srcEp dstEp tsn : Nat} (hdst : dst ≤ 0xFFFF) (hcluster : cluster ≤ 0xFFFF)
    (hsrc : srcEp ≤ 255) (hdep : dstEp ≤ 255) (htsn : tsn ≤ 255) (data : List Byte) (s : State) :
    exec (.fromCluster dst s.config.zdoProfile.toNat cluster srcEp dstEp tsn data) s =
      .next (answer ((fromClusterDiscovery s.cmdTable s.config dst cluster tsn data).map .object) s) := by
  have hprofile : s.config.zdoProfile.toNat ≤ 0xFFFF := Nat.le_of_lt_succ s.config.zdoProfile.isLt
  rw [exec_fromCluster_of_range hdst hprofile hcluster hsrc hdep htsn, fromCluster, if_pos rfl]

/-- R9: the two little-endian bytes of a number are those of its low 16 bits. -/
theorem leBytes_two (n : Nat) : leBytes 2 n = two (BitVec.ofNat 16 n) := by
  have hlow : BitVec.ofNat 8 n = (BitVec.ofNat 16 n).extractLsb' 0 8 := by
    apply BitVec.eq_of_toNat_eq
    simp only [BitVec.extractLsb'_toNat, BitVec.toNat_ofNat, Nat.shiftRight_zero]
    omega
  have hhigh : BitVec.ofNat 8 (n / 256) = (BitVec.ofNat 16 n).extractLsb' 8 8 := by
    apply BitVec.eq_of_toNat_eq
    simp only [BitVec.extractLsb'_toNat, BitVec.toNat_ofNat, Nat.shiftRight_eq_div_pow]
    omega
  rw [two, ← hlow, ← hhigh]
  rfl

theorem discoveryBytes_eq (cfg : Config) (dst cluster : Nat) (data : List Byte) :
    discoveryBytes cfg dst cluster data =
      (if (BitVec.ofNat 16 dst, BitVec.ofNat 16 cluster) ∈ cfg.bcastPermitJoin then [cfg.pjAddrMode] else []) ++
        two (BitVec.ofNat 16 dst) ++ data := by
  simp only [discoveryBytes, isBcastPermitJoin, List.contains_iff_mem, leBytes_two]

theorem fromClusterDiscovery_of_long {cluster : Nat} (h : 255 < cluster) (tbl : List CommandSpec) (cfg : Config) (dst tsn : Nat)
    (data : List Byte) : fromClusterDiscovery tbl cfg dst cluster tsn data = .error (.unknownCommand (.byId 5 cluster)) :=
  if_pos h

theorem fromClusterDiscovery_of_lookup_error {tbl : List CommandSpec} {cluster : Nat} {x : Err} (hle : cluster ≤ 255)
    (h : lookupById tbl 5 cluster = .error x) (cfg : Config) (dst tsn : Nat) (data : List Byte) :
    fromClusterDiscovery tbl cfg dst cluster tsn data = .error x := by
  have hzdo : lookupById tbl Subsys.zdo.toNat cluster = .error x := h
  rw [fromClusterDiscovery, if_neg (by omega), hzdo]

theorem fromClusterDiscovery_of_lookup {tbl : List CommandSpec} {cluster : Nat} {e : CommandSpec} (hle : cluster ≤ 255)
    (h : lookupById tbl 5 cluster = .ok e) (cfg : Config) (dst tsn : Nat) (data : List Byte) :
    fromClusterDiscovery tbl cfg dst cluster tsn data =
      (readSchema cfg e.requestSchema (discoveryBytes cfg dst cluster data)).map
        fun m => ⟨e.direction, 5, e.name, BitVec.ofNat 8 cluster, m, e.requestSchema, some tsn⟩ := by
  have hzdo : lookupById tbl Subsys.zdo.toNat cluster = .ok e := h
  simp only [fromClusterDiscovery, if_neg (Nat.not_lt.2 hle), hzdo]
  cases readSchema cfg e.requestSchema (discoveryBytes cfg dst cluster data) <;> rfl

/-- Settles O30: the lookup comes first; after it the walk over the address and the data decides. -/
theorem fromClusterDecodesDiscovery : Obligations.FromClusterDecodesDiscovery := by
  intro dst cluster srcEp dstEp tsn data s hdst hcluster hsrc hdep htsn
  have hexec := exec_fromCluster_of_zdoProfile hdst hcluster hsrc hdep htsn data s
  refine ⟨?_, ?_⟩
  · intro e r hle hentry hwalk
    rw [hexec, fromClusterDiscovery_of_lookup hle (lookupById_of_entry hentry), discoveryBytes_eq, hwalk]
    cases r <;> rfl
  · intro hnone
    suffices fromClusterDiscovery s.cmdTable s.config dst cluster tsn data = .error (.unknownCommand (.byId 5 cluster)) by
      rw [hexec, this]
      rfl
    rcases Nat.lt_or_ge 255 cluster with hlong | hle
    · exact fromClusterDiscovery_of_long hlong _ _ _ _ _
    · refine fromClusterDiscovery_of_lookup_error hle (lookupById_of_absent ?_) _ _ _ _
      rintro d hd ⟨hzdo, hid⟩
      exact hnone.resolve_left (by omega) d hd ⟨BitVec.eq_of_toNat_eq hzdo, hid⟩

/-! ## IS_RESET_COMMAND (R213) -/

theorem exec_isResetCommand_of_wf {o : CommandObject} (hok : Operands.object o = true) (s : State) :
    exec (.isResetCommand o) s = .next (gives (.bool (isResetCommand o)) s) := by
  have hexec : exec (.isResetCommand o) s =
      .next (checked 0x64 (Operands.object o) (respond (.ok (.bool (isResetCommand o)))) s) := rfl
  rw [hexec, hok, checked_true]
  rfl

theorem isResetCommand_eq (o : CommandObject) : isResetCommand o = decide (isReset o) := by
  simp only [isResetCommand, Subsys.sys, Subsys.sapi, Bool.beq_eq_decide_eq, Bool.decide_and, Bool.decide_or]

/-- Settles O31: the predicate of the machine is the claim's, and neither reads the type. -/
theorem resetCommandsRecognised : Obligations.ResetCommandsRecognised := by
  intro o s hpayload hschema
  rw [exec_isResetCommand_of_wf ((operands_object_iff o).2 ⟨hpayload, hschema⟩), isResetCommand_eq]

/-! ## PWRITE on the port and in a walk (R130, R206) -/

theorem step_of_decode_ok {x : Input} {i : Instr} (h : decode x = .ok i) (rest : List Input) (s : State) :
    step (withPort (x :: rest) s) = exec i (withPort rest s) := by
  simp only [step, h]
  rfl

/-- R130: the instruction of a tag's write runs the codec's write of that tag. -/
theorem exec_writeInstr (t : Tag) (v : Value) (w : List Byte) (s : State) :
    exec (writeInstr t v w) s = .next (writeOp (writeWord t) v (pwriteTag s.config t v w) s) := by
  cases t <;> rfl

theorem writeOp_of_wf {v : Value} (hv : v.wf = true) (op : Byte) (r : Except Err (List Byte)) (s : State) :
    writeOp op v r s = answer (r.map .bytes) s := by
  rw [writeOp, hv, checked_true]

/-- R83, R130: a write word presented with a well-formed value answers as the codec's write of its tag number, whether or not the tag has a rule. -/
theorem step_write {v : Value} (hv : v.wf = true) {tag : Nat} (htag : tag < 32) (w : List Byte) (s : State) :
    step (withPort [.op .caller (BitVec.ofNat 8 (0x20 + tag)) [.value v, .bytes w]] s) =
      .next (answer ((pwrite s.config tag v w).map .bytes) (withPort [] s)) := by
  have hword : (BitVec.ofNat 8 (0x20 + tag)).toNat = 0x20 + tag := by
    rw [BitVec.toNat_ofNat]
    omega
  have hfunction : opFunction (BitVec.ofNat 8 (0x20 + tag)) = tag := by
    rw [opFunction, hword]
    omega
  have hdecode := decode_of_write (op := BitVec.ofNat 8 (0x20 + tag)) (by omega) (by omega) .caller [.value v, .bytes w]
  rw [decodeWrite, hfunction] at hdecode
  cases hrule : Tag.ofNat? tag with
  | some t =>
    simp only [hrule] at hdecode
    rw [step_of_decode_ok hdecode, exec_writeInstr, writeOp_of_wf hv]
    simp only [pwrite, hrule]
  | none =>
    simp only [hrule, hv, if_true] at hdecode
    rw [step_of_decode_error hdecode]
    simp only [pwrite, hrule]
    rfl

theorem map_bytes_eq_ok_iff (r : Except Err (List Byte)) (bs : List Byte) : r.map OpResult.bytes = .ok (.bytes bs) ↔ r = .ok bs := by
  cases r <;> simp [Except.map]

theorem map_bytes_eq_error_iff (r : Except Err (List Byte)) (e : Err) : r.map OpResult.bytes = .error e ↔ r = .error e := by
  cases r <;> simp [Except.map]

theorem writeReturns_ok_iff {p : ParameterSpec} {v : Value} (htag : p.typeTag < 32) (hv : v.wf = true) (w w' : List Byte) (s : State) :
    writeReturns s p v w (.ok (.bytes w')) ↔ pwrite s.config p.typeTag v w = .ok w' := by
  rw [writeReturns, step_write hv htag, Host.Outcome.next.injEq, answer_eq_gives_iff, map_bytes_eq_ok_iff]

theorem writeReturns_err_iff {p : ParameterSpec} {v : Value} (htag : p.typeTag < 32) (hv : v.wf = true) (w : List Byte) (x : Err)
    (s : State) : writeReturns s p v w (.err x) ↔ pwrite s.config p.typeTag v w = .error x := by
  rw [writeReturns, step_write hv htag, Host.Outcome.next.injEq, answer_eq_fails_iff, map_bytes_eq_error_iff]

/-- R11: the values of a canonical payload are canonical. -/
theorem wf_of_get? {m : Fields} {k : String} {v : Value} (hm : m.wf = true) (h : m.get? k = some v) : v.wf = true := by
  match m with
  | .nil => cases h
  | .cons k' v' m =>
    rw [Fields.wf, Bool.and_eq_true, Bool.and_eq_true] at hm
    obtain ⟨⟨hv', _⟩, htail⟩ := hm
    rw [Fields.get?] at h
    split at h
    · cases h
      exact hv'
    · exact wf_of_get? htail h

/-! ## The encode walk (R206) -/

section Walk

variable {cfg : Config} {m : Fields} {before : Schema} {p : ParameterSpec} {w : List Byte}

/-- R206: once the fields before it are written, the walk goes on at the next field. -/
theorem writeSchema_append (hbefore : writeSchema cfg before m = .ok w) (rest : Schema) :
    writeSchema cfg (before ++ rest) m = writeWalk cfg m rest w := by
  rw [writeSchema] at hbefore ⊢
  rw [writeWalk_append, hbefore]

theorem writeSchema_of_missing (hbefore : writeSchema cfg before m = .ok w) (h : m.get? p.name = none) (after : Schema) :
    writeSchema cfg (before ++ p :: after) m = .error (.schemaError (.missingField p.name)) := by
  rw [writeSchema_append hbefore, writeWalk, h]

theorem writeSchema_of_write_ok {v : Value} {w' : List Byte} (hbefore : writeSchema cfg before m = .ok w)
    (hv : m.get? p.name = some v) (h : pwrite cfg p.typeTag v w = .ok w') : writeSchema cfg (before ++ [p]) m = .ok w' := by
  simp only [writeSchema_append hbefore, writeWalk, hv, h]

theorem writeSchema_of_write_error {v : Value} {x : Err} (hbefore : writeSchema cfg before m = .ok w) (hv : m.get? p.name = some v)
    (h : pwrite cfg p.typeTag v w = .error x) (after : Schema) : writeSchema cfg (before ++ p :: after) m = .error x := by
  simp only [writeSchema_append hbefore, writeWalk, hv, h]

end Walk

/-! ## TO_FRAME (R208) -/

theorem toBits_eq_typeBits (t : CmdType) : t.toBits = typeBits t := by
  cases t <;> rfl

theorem typeBits_toNat_le (t : CmdType) : (typeBits t).toNat ≤ 3 := by
  cases t <;> decide

/-- R208: the Frame of an object whose fields were written as `bs`. -/
def frameOf (o : CommandObject) (bs : List Byte) : Frame where
  commandType := typeBits o.commandType
  subsystem := o.subsystem
  commandId := o.wireId
  payload := bs
  length := BitVec.ofNat 8 bs.length
  checksum := fold ([BitVec.ofNat 8 bs.length, cmd (typeBits o.commandType) o.subsystem, o.wireId] ++ bs)

theorem toFrame_of_fits {cfg : Config} {o : CommandObject} {bs : List Byte} (h : writeSchema cfg o.schemaUsed o.payload = .ok bs)
    (hle : bs.length ≤ 255) : toFrame cfg o = .ok (frameOf o bs) := by
  simp only [toFrame, h, if_neg (Nat.not_lt.2 hle), frameOf, toBits_eq_typeBits, cmd0_toNat, fold_eq_xorfold]

theorem toFrame_of_long {cfg : Config} {o : CommandObject} {bs : List Byte} (h : writeSchema cfg o.schemaUsed o.payload = .ok bs)
    (hlong : 255 < bs.length) : toFrame cfg o = .error (.payloadTooLong bs.length) := by
  simp only [toFrame, h, if_pos hlong]

theorem toFrame_of_error {cfg : Config} {o : CommandObject} {x : Err} (h : writeSchema cfg o.schemaUsed o.payload = .error x) :
    toFrame cfg o = .error x := by
  rw [toFrame, h]

theorem frameOf_length {o : CommandObject} {bs : List Byte} (hle : bs.length ≤ 255) : (frameOf o bs).length.toNat = bs.length := by
  rw [frameOf, BitVec.toNat_ofNat]
  omega

theorem frameOf_valid {o : CommandObject} {bs : List Byte} (hle : bs.length ≤ 255) : (frameOf o bs).valid = true := by
  refine (frame_valid_iff _).2 ⟨frameOf_length hle, ?_⟩
  rw [Frame.properChecksum, cmd0_toNat, ← fold_eq_xorfold]
  rfl

/-- R102: the encoding of the Frame is its own fields, byte by byte. -/
theorem encodeFrame_frameOf {o : CommandObject} {bs : List Byte} (hle : bs.length ≤ 255) :
    encodeFrame (frameOf o bs) = .ok (frameBytes (frameOf o bs).commandType (frameOf o bs).length (frameOf o bs).subsystem
      (frameOf o bs).commandId bs (frameOf o bs).checksum) :=
  encodeFrame_of_valid (frameOf_valid hle) (typeBits_toNat_le o.commandType)

theorem exec_toFrame_of_wf {o : CommandObject} (hok : Operands.object o = true) (s : State) :
    exec (.toFrame o) s = .next (answer ((toFrame s.config o).map .frame) s) := by
  have hexec : exec (.toFrame o) s = .next (checked 0x61 (Operands.object o) (answer ((toFrame s.config o).map .frame)) s) := rfl
  rw [hexec, hok, checked_true]

theorem exec_toFrame_of_error {o : CommandObject} {s : State} {x : Err} (hok : Operands.object o = true)
    (h : writeSchema s.config o.schemaUsed o.payload = .error x) : exec (.toFrame o) s = .next (fails x s) := by
  rw [exec_toFrame_of_wf hok, toFrame_of_error h]
  rfl

/-- Settles O27: the walk goes field by field, each write being what PWRITE returns; where it fails TO_FRAME returns its error, and where it ends the
length decides. -/
theorem toFrameGivesValidFrame : Obligations.ToFrameGivesValidFrame := by
  intro o s hpayload hschema
  have hok : Operands.object o = true := (operands_object_iff o).2 ⟨hpayload, hschema⟩
  refine ⟨rfl, ?_, ?_, ?_, fun x h => exec_toFrame_of_error hok h⟩
  · intro before p after w hsplit hbefore
    have herror {x : Err} (h : writeSchema s.config (before ++ p :: after) o.payload = .error x) :
        exec (.toFrame o) s = .next (fails x s) := exec_toFrame_of_error hok (hsplit ▸ h)
    refine ⟨fun hmissing => herror (writeSchema_of_missing hbefore hmissing after), ?_⟩
    intro v hv
    have hvwf := wf_of_get? hpayload hv
    refine ⟨?_, ?_, ?_⟩
    · intro w' htag hret
      exact writeSchema_of_write_ok hbefore hv ((writeReturns_ok_iff htag hvwf w w' s).1 hret)
    · intro x htag hret
      exact herror (writeSchema_of_write_error hbefore hv ((writeReturns_err_iff htag hvwf w x s).1 hret) after)
    · intro htag
      exact herror (writeSchema_of_write_error hbefore hv (pwrite_of_tagWithoutRule htag s.config v w) after)
  · intro bs hwalk hle
    refine ⟨frameOf o bs, ?_, rfl, rfl, rfl, rfl, frameOf_length hle, rfl, frameOf_valid hle, encodeFrame_frameOf hle⟩
    rw [exec_toFrame_of_wf hok, toFrame_of_fits hwalk hle]
    rfl
  · intro bs hwalk hlong
    rw [exec_toFrame_of_wf hok, toFrame_of_long hwalk hlong]
    rfl

end Sys2Proof.Proofs
end

section
/-! PROOFS. The Request Engine (spec/43_request_engine.md): how a request is refused, how waiters are registered, settled and cancelled, and what
becomes of a frame that arrives. The whole next state is said once for each shared operation (`settle`, `completeRequest` under a cancellation,
`frameReceived`), and each statement picks the case that its hypotheses select. -/

namespace Sys2Proof.Proofs

open Sys2Proof Sys2Proof.Machine Sys2Proof.Claim

/-! ## Removals, as the claims write them -/

theorem nset_erase_eq_filter (k : Nat) (l : List Nat) : NSet.erase k l = l.filter (fun q => q ≠ k) := by
  simp only [NSet.erase, bne, Bool.beq_eq_decide_eq, ne_eq, decide_not]

theorem removeWaiter_eq (w : Nat) (s : State) : removeWaiter w s = { s with waiters := s.waiters.filter (fun x => x.wid ≠ w) } := by
  simp only [removeWaiter, bne, Bool.beq_eq_decide_eq, ne_eq, decide_not]

/-! ## The pending set in its canonical form (R21) -/

section PendingSet

variable {waiters : List Waiter} (hrising : NSet.wf (waiters.map (·.wid)) = true)

include hrising

theorem nodup_wids : (waiters.map (·.wid)).Nodup := ((NSet.wf_iff_pairwise _).1 hrising).nodup

/-- A handle finds the waiter that bears it. -/
theorem find?_wid_of_mem {x : Waiter} (hx : x ∈ waiters) : waiters.find? (fun y => y.wid == x.wid) = some x := by
  refine find?_eq_some_of_unique hx fun y hy => ?_
  rw [beq_iff_eq]
  exact ⟨fun hwid => List.inj_on_of_nodup_map (nodup_wids hrising) hy hx hwid, fun h => h ▸ rfl⟩

/-- A removal by handle takes out one waiter and leaves every other where it stands. -/
theorem filter_wid_ne_of_split {older newer : List Waiter} {x : Waiter} (hsplit : waiters = older ++ x :: newer) :
    waiters.filter (fun y => y.wid ≠ x.wid) = older ++ newer := by
  have hnodup := nodup_wids hrising
  subst hsplit
  rw [List.map_append, List.map_cons, List.nodup_middle, List.nodup_cons, ← List.map_append] at hnodup
  have hothers : ∀ y ∈ older ++ newer, y.wid ≠ x.wid := fun y hy heq => hnodup.1 (heq ▸ List.mem_map_of_mem hy)
  have hkeep : (older ++ newer).filter (fun y => y.wid ≠ x.wid) = older ++ newer :=
    List.filter_eq_self.2 fun y hy => decide_eq_true (hothers y hy)
  rw [List.filter_append] at hkeep
  rw [List.filter_append, List.filter_cons_of_neg (by simp), hkeep]

end PendingSet

/-! ## REQUEST refused (R241, R246) -/

/-- With its object and its frame built, only the path of a request can still fail. -/
theorem buildRequest_of_built {s : State} {u : Nat} {n : String} {p : Fields} {o : CommandObject} {bytes : List Byte}
    (h : built s u n p o bytes) : buildRequest s.cmdTable s.config u n p = (kindOf o).map fun k => (o, bytes, k) := by
  obtain ⟨hobject, hbytes⟩ := h
  cases hframe : toFrame s.config o with
  | error x => rw [hframe] at hbytes; cases hbytes
  | ok f =>
    have hencode : encodeFrame f = .ok bytes := by rw [hframe] at hbytes; exact hbytes
    simp only [buildRequest, hobject, hframe, hencode]
    cases kindOf o <;> rfl

theorem kindOf_of_poll_or_srsp {o : CommandObject} (h : o.commandType = .poll ∨ o.commandType = .srsp) :
    kindOf o = .error (.invalidCommandType o.commandType) := by
  rcases h with h | h <;> simp only [kindOf, h]

theorem exec_request_of_operands {u : Nat} {p : Fields} {e : List Int} (hok : Operands.request u p e = true) (n : String) (s : State) :
    exec (.request u n p e) s = .next (requestOp u n p e s) := by
  have hexec : exec (.request u n p e) s = .next (checked 0x80 (Operands.request u p e) (requestOp u n p e) s) := rfl
  rw [hexec, hok, checked_true]

theorem exec_request_of_build_error {u : Nat} {n : String} {p : Fields} {e : List Int} {s : State} {x : Err}
    (hok : Operands.request u p e = true) (h : buildRequest s.cmdTable s.config u n p = .error x) :
    exec (.request u n p e) s = .next (fails x s) := by
  rw [exec_request_of_operands hok, requestOp, h]
  rfl

/-- Settles O38: each of the three errors is that of building the request, before any state is written. -/
theorem requestRefusedAtOnce : Obligations.RequestRefusedAtOnce := by
  intro u n p e s hok
  refine ⟨?_, ?_, ?_⟩
  · intro x hname
    exact exec_request_of_build_error hok (by simp only [buildRequest, hname])
  · intro o x hobject hframe
    exact exec_request_of_build_error hok (by simp only [buildRequest, hobject, hframe])
  · intro o bytes hbuilt htype
    refine exec_request_of_build_error hok ?_
    rw [buildRequest_of_built hbuilt, kindOf_of_poll_or_srsp htype]
    rfl

/-! ## CREATE_RESPONSE_WAITER (R252, R265) -/

theorem ofNat?_typeBits (t : CmdType) : CmdType.ofNat? (typeBits t).toNat = some t := by
  cases t <;> rfl

theorem register_of_room {s : State} (h : s.config.waiterCap ≠ some s.waiters.length) (t : CmdType) (u : Subsystem) (n : String)
    (m : Fields) (d : Nat) (o : Owner) :
    register t u n m d o s = .ok (s.nextWid, { s with
      nextWid := s.nextWid + 1
      waiters := s.waiters ++ [⟨s.nextWid, t, u, n, m, s.now + d, o⟩]
      slots := FMap.set s.nextWid ⟨.pending, false⟩ s.slots }) :=
  if_neg h

theorem register_of_full {s : State} (h : s.config.waiterCap = some s.waiters.length) (t : CmdType) (u : Subsystem) (n : String)
    (m : Fields) (d : Nat) (o : Owner) : register t u n m d o s = .error .waiterTableFull :=
  if_pos h

theorem exec_createResponseWaiter (c u : Nat) (n : String) (m : Fields) (timeout : Option Nat) (s : State) :
    exec (.createResponseWaiter c u n m timeout) s =
      .next (checked 0x81 (Operands.waiter c u m) (createWaiterOp c u n m timeout) s) := rfl

theorem exec_createResponseWaiter_of_range {u : Nat} {m : Fields} (hu : u < 32) (hm : m.wf = true) (t : CmdType) (n : String)
    (timeout : Option Nat) (s : State) :
    exec (.createResponseWaiter (typeBits t).toNat u n m timeout) s = .next (createWaiterOp (typeBits t).toNat u n m timeout s) := by
  have hok : Operands.waiter (typeBits t).toNat u m = true := by
    rw [Operands.waiter, decide_eq_true (typeBits_toNat_le t), operands_subsystem_of_lt hu, hm]
    rfl
  rw [exec_createResponseWaiter, hok, checked_true]

/-- Settles O40: the type selects the waiter's, the room decides whether it is registered, and a type over 3 is no operand. -/
theorem responseWaiterIsRegistered : Obligations.ResponseWaiterIsRegistered := by
  intro t u n m timeout s hu hm
  refine ⟨?_, ?_, ?_⟩
  · intro hroom
    rw [exec_createResponseWaiter_of_range hu hm]
    simp only [createWaiterOp, ofNat?_typeBits, register_of_room hroom]
    rfl
  · intro hfull
    rw [exec_createResponseWaiter_of_range hu hm]
    simp only [createWaiterOp, ofNat?_typeBits, register_of_full hfull]
    rfl
  · intro c hc
    have hbad : Operands.waiter c u m = false := by
      rw [Operands.waiter, decide_eq_false (Nat.not_le.2 hc)]
      rfl
    rw [exec_createResponseWaiter, hbad, checked_false]
    rfl

/-! ## CANCEL_REQUEST (R255) -/

section CancelRequest

variable {rid : Nat} {c : ReqCtx} {s : State}

theorem cancelRequestOp_of_none (h : FMap.get? rid s.reqs = none) : cancelRequestOp rid s = s := by
  simp only [cancelRequestOp, h]

theorem cancelRequestOp_of_waitGate (h : FMap.get? rid s.reqs = some c) (hphase : c.phase = .waitGate) :
    cancelRequestOp rid s = completeRequest rid (.err .cancelled) (unqueue rid s) := by
  simp only [cancelRequestOp, h, hphase, if_true, reduceCtorEq, if_false]

theorem cancelRequestOp_of_awaitingReply {w : Nat} (h : FMap.get? rid s.reqs = some c) (hphase : c.phase = .awaitingReply)
    (hwid : c.wid = some w) : cancelRequestOp rid s = completeRequest rid (.err .cancelled) (removeWaiter w s) := by
  simp only [cancelRequestOp, h, hphase, hwid, if_true, reduceCtorEq, if_false]

end CancelRequest

theorem exec_cancelRequest (rid : Nat) (s : State) : exec (.cancelRequest rid) s = .next (gives .none (cancelRequestOp rid s)) := rfl

/-- Settles O42: what a completion does (R251), in the two phases that a live request can be in. -/
theorem cancelRequestCompletesIt : Obligations.CancelRequestCompletesIt := by
  intro rid s
  refine ⟨?_, ?_, ?_⟩
  · intro habsent
    rw [exec_cancelRequest, cancelRequestOp_of_none habsent]
  · intro c hctx hphase hwid hgate
    have hlive : FMap.get? rid (unqueue rid s).reqs = some c := hctx
    have hgate' : (unqueue rid s).gate ≠ .held rid := hgate
    rw [exec_cancelRequest, cancelRequestOp_of_waitGate hctx hphase, completeRequest_of_some hlive, if_neg hgate', hwid]
    simp only [unqueue, nset_erase_eq_filter]
  · intro c w hctx hphase hwid hgate
    have hlive : FMap.get? rid (removeWaiter w s).reqs = some c := hctx
    have hgate' : (removeWaiter w s).gate = .held rid := hgate
    rw [exec_cancelRequest, cancelRequestOp_of_awaitingReply hctx hphase hwid, completeRequest_of_some hlive, if_pos hgate', hwid]
    simp only [removeWaiter_eq]

/-! ## A waiter settled (R254, R256, R259) -/

theorem latch_of_slot {w : Nat} {sl : Slot} {s : State} (h : FMap.get? w s.slots = some sl) (r : SlotResult) :
    latch w r s = setSlot w ⟨r, sl.awaited⟩ s := by
  simp only [latch, h]

/-- Whether or not the waiter has a slot, its result is written there and nothing else changes. -/
theorem exists_latch_eq (w : Nat) (r : SlotResult) (s : State) : ∃ a, latch w r s = setSlot w ⟨r, a⟩ s := by
  cases h : FMap.get? w s.slots with
  | none => exact ⟨false, by simp only [latch, h]⟩
  | some sl => exact ⟨sl.awaited, latch_of_slot h r⟩

theorem completeAwait_of_unheld {w : Nat} {r : SlotResult} {s : State} (h : FMap.get? w s.slots = some ⟨r, false⟩) :
    completeAwait w s = s := by
  simp only [completeAwait, h, Bool.false_eq_true, if_false]

theorem completeAwait_of_held {w : Nat} {r : SlotResult} {out : DoneOutcome} {s : State} (h : FMap.get? w s.slots = some ⟨r, true⟩)
    (hout : slotOutcome r = some out) : completeAwait w s = deleteSlot w (emitDone (.waiter w) out s) := by
  simp only [completeAwait, h, if_true, hout]

section Settle

variable {x : Waiter} {s : State}

theorem settle_of_caller (howner : x.owner = .caller) (r : SlotResult) :
    settle x r s = completeAwait x.wid (latch x.wid r (removeWaiter x.wid s)) := by
  simp only [settle, howner]

/-- A caller's waiter on which no AWAIT is held: its slot keeps the result. -/
theorem settle_of_unheld (howner : x.owner = .caller) {q : SlotResult} (hslot : FMap.get? x.wid s.slots = some ⟨q, false⟩)
    (r : SlotResult) :
    settle x r s = { s with
      waiters := s.waiters.filter (fun y => y.wid ≠ x.wid)
      slots := FMap.set x.wid ⟨r, false⟩ s.slots } := by
  have hslot' : FMap.get? x.wid (removeWaiter x.wid s).slots = some ⟨q, false⟩ := hslot
  rw [settle_of_caller howner, latch_of_slot hslot', completeAwait_of_unheld (r := r) (FMap.get?_set_self ..), removeWaiter_eq]
  rfl

/-- A caller's waiter on which an AWAIT is held: the AWAIT completes and consumes the slot. -/
theorem settle_of_held (howner : x.owner = .caller) {q : SlotResult} (hslot : FMap.get? x.wid s.slots = some ⟨q, true⟩)
    {r : SlotResult} {out : DoneOutcome} (hout : slotOutcome r = some out) :
    settle x r s = { s with
      waiters := s.waiters.filter (fun y => y.wid ≠ x.wid)
      slots := FMap.erase x.wid s.slots
      done := s.done ++ [⟨.waiter x.wid, out⟩] } := by
  have hslot' : FMap.get? x.wid (removeWaiter x.wid s).slots = some ⟨q, true⟩ := hslot
  rw [settle_of_caller howner, latch_of_slot hslot', completeAwait_of_held (FMap.get?_set_self ..) hout, removeWaiter_eq]
  simp only [deleteSlot, emitDone, setSlot, FMap.erase_set_self]

/-- The waiter that a request awaits: the request completes, and its waiter, slot and context go. -/
theorem settle_of_request {rid : Nat} {c : ReqCtx} {r : SlotResult} {out : DoneOutcome} (howner : x.owner = .req rid)
    (hctx : FMap.get? rid s.reqs = some c) (hwid : c.wid = some x.wid) (hout : requestOutcome c r = some out) :
    settle x r s = { s with
      waiters := s.waiters.filter (fun y => y.wid ≠ x.wid)
      slots := FMap.erase x.wid s.slots
      gate := if s.gate = .held rid then .free else s.gate
      reqs := FMap.erase rid s.reqs
      done := s.done ++ [⟨.req rid, out⟩] } := by
  have hsettle : settle x r s = completeRequest rid out (latch x.wid r (removeWaiter x.wid s)) := by
    simp only [settle, howner, latch_reqs, removeWaiter_reqs, hctx, hout]
  obtain ⟨a, hlatch⟩ := exists_latch_eq x.wid r (removeWaiter x.wid s)
  have hlive : FMap.get? rid (setSlot x.wid ⟨r, a⟩ (removeWaiter x.wid s)).reqs = some c := hctx
  rw [hsettle, hlatch, completeRequest_of_some hlive, hwid, removeWaiter_eq]
  simp only [setSlot, FMap.erase_set_self]
  rfl

end Settle

/-! ## CANCEL_WAITER (R256) -/

theorem exec_cancelWaiter (w : Nat) (s : State) : exec (.cancelWaiter w) s = .next (cancelWaiterOp w s) := rfl

section CancelWaiter

variable {x : Waiter} {s : State}

theorem exec_cancelWaiter_of_caller (hrising : NSet.wf (s.waiters.map (·.wid)) = true) (hx : x ∈ s.waiters)
    (howner : x.owner = .caller) : exec (.cancelWaiter x.wid) s = .next (gives .none (settle x .cancelled s)) := by
  simp only [exec_cancelWaiter, cancelWaiterOp, find?_wid_of_mem hrising hx, howner]
  rfl

theorem exec_cancelWaiter_of_request (hrising : NSet.wf (s.waiters.map (·.wid)) = true) (hx : x ∈ s.waiters)
    (howner : x.owner ≠ .caller) : exec (.cancelWaiter x.wid) s = .next (fails (.badHandle x.wid) s) := by
  cases hreq : x.owner with
  | caller => exact absurd hreq howner
  | req rid =>
    simp only [exec_cancelWaiter, cancelWaiterOp, find?_wid_of_mem hrising hx, hreq]
    rfl

theorem exec_cancelWaiter_of_absent {w : Nat} (h : ∀ x ∈ s.waiters, x.wid ≠ w) :
    exec (.cancelWaiter w) s = .next (gives .none s) := by
  have hfind : s.waiters.find? (fun x => x.wid == w) = none := List.find?_eq_none.2 fun x hx => by simpa using h x hx
  simp only [exec_cancelWaiter, cancelWaiterOp, hfind]
  rfl

end CancelWaiter

/-- Settles O43: the handle finds its waiter, whose owner decides; a caller's is settled as cancelled. -/
theorem cancelWaiterSettlesIt : Obligations.CancelWaiterSettlesIt := by
  intro s hcanonical
  obtain ⟨hrising, -⟩ := hcanonical
  refine ⟨?_, ?_, ?_, fun w habsent => exec_cancelWaiter_of_absent habsent⟩
  · intro x hx howner hslot
    rw [exec_cancelWaiter_of_caller hrising hx howner, settle_of_unheld howner hslot]
  · intro x hx howner hslot
    rw [exec_cancelWaiter_of_caller hrising hx howner, settle_of_held howner hslot rfl]
  · intro x hx howner
    exact exec_cancelWaiter_of_request hrising hx howner

/-! ## FRAME_RECEIVED (R257) -/

section FrameReceived

variable {s : State} {f : Frame} {o : CommandObject}

theorem exec_frameReceived_of_valid (hvalid : f.valid = true) : exec (.frameReceived f) s = .next (frameReceived f s) := by
  have hexec : exec (.frameReceived f) s = .next (checked 0xE0 f.valid (frameReceived f) s) := rfl
  rw [hexec, hvalid, checked_true]

theorem frameReceived_of_error {e : Err} (h : fromFrame s.cmdTable s.config f = .error e) :
    frameReceived f s = emitEvt (.rxError e.code (.frame f.subsystem f.commandId f.commandType)) s := by
  simp only [frameReceived, h]

theorem frameReceived_of_unmatched (hdecode : fromFrame s.cmdTable s.config f = .ok o)
    (hnone : ∀ x ∈ s.waiters, waiterMatches o x = false) : frameReceived f s = dispatch o s := by
  have hfind : s.waiters.find? (waiterMatches o) = none := List.find?_eq_none.2 fun x hx => by simp [hnone x hx]
  simp only [frameReceived, hdecode, hfind]

theorem exec_frameReceived_of_firstMatch {older newer : List Waiter} {x : Waiter} (h : firstMatch s f o older x newer) :
    exec (.frameReceived f) s = .next (settle x (.fulfilled o) s) := by
  obtain ⟨hvalid, hdecode, hsplit, holder, hmatch⟩ := h
  have hfind : s.waiters.find? (waiterMatches o) = some x :=
    List.find?_eq_some_iff_append.2 ⟨hmatch, older, newer, hsplit, fun y hy => by simp [holder y hy]⟩
  rw [exec_frameReceived_of_valid hvalid]
  simp only [frameReceived, hdecode, hfind]

theorem dispatch_of_handler (h : o.name ∈ s.handlers) : dispatch o s = emitEvt (.unsolicited o) s :=
  if_pos (List.contains_iff_mem.2 h)

theorem dispatch_of_no_handler (h : o.name ∉ s.handlers) : dispatch o s = s :=
  if_neg fun hc => h (List.contains_iff_mem.1 hc)

end FrameReceived

/-- R207: a reserved type is the first thing that FROM_FRAME refuses. -/
theorem fromFrame_of_reservedType {f : Frame} (h : 3 < f.commandType.toNat) (tbl : List CommandSpec) (cfg : Config) :
    fromFrame tbl cfg f = .error (.reservedCommandType f.commandType.toNat) := by
  have hnone : CmdType.ofNat? f.commandType.toNat = none := by
    match f.commandType.toNat, h with
    | n + 4, _ => rfl
  rw [fromFrame, hnone]

/-- Settles O48: a frame that decodes and matches no waiter goes to the observer, one that does not decode is reported. -/
theorem unmatchedOrUndecodableFrame : Obligations.UnmatchedOrUndecodableFrame := by
  intro s f hvalid
  rw [exec_frameReceived_of_valid hvalid]
  refine ⟨?_, ?_, ?_, ?_⟩
  · intro o hdecode hnone hhandler
    rw [frameReceived_of_unmatched hdecode hnone, dispatch_of_handler hhandler]
    rfl
  · intro o hdecode hnone hhandler
    rw [frameReceived_of_unmatched hdecode hnone, dispatch_of_no_handler hhandler]
  · intro e herror
    rw [frameReceived_of_error herror]
    rfl
  · intro hreserved
    rw [frameReceived_of_error (fromFrame_of_reservedType hreserved _ _)]
    rfl

/-! ## A request completed by its response (R248, R249) -/

/-- R248: the machine's status check is the claim's: only a number can be among the expected ones, and a negative one never is. -/
theorem sreqOutcome_eq_responseOutcome (expected : List Int) (o : CommandObject) :
    sreqOutcome expected o = responseOutcome expected o := by
  unfold sreqOutcome responseOutcome
  cases o.payload.get? "status" with
  | none => rfl
  | some v =>
    cases v with
    | int n =>
      by_cases hn : 0 ≤ n <;> simp [statusAccepted, Value.intval, hn]
    | nwk a => simp [statusAccepted, Value.intval]
    | eui | bytes | list | record => rfl

theorem requestOutcome_fulfilled {c : ReqCtx} (hkind : c.kind ≠ .areqPath) (o : CommandObject) :
    requestOutcome c (.fulfilled o) = some (if c.kind = .resetPath then .ok o else responseOutcome c.expectedStatus o) := by
  cases h : c.kind with
  | sreqPath => simp only [requestOutcome, h, sreqOutcome_eq_responseOutcome, reduceCtorEq, if_false]
  | resetPath => simp only [requestOutcome, h, if_true]
  | areqPath => exact absurd h hkind

/-- Settles O47: the frame settles the request's own waiter, and the path decides what the response means. -/
theorem frameCompletesRequest : Obligations.FrameCompletesRequest := by
  intro s f o older newer x rid c hcanonical hfirst howner hctx hwid hgate hkind
  obtain ⟨hrising, -⟩ := hcanonical
  have hothers : s.waiters.filter (fun y => y.wid ≠ x.wid) = older ++ newer := by
    obtain ⟨-, -, hsplit, -⟩ := hfirst
    exact filter_wid_ne_of_split hrising hsplit
  rw [exec_frameReceived_of_firstMatch hfirst, settle_of_request howner hctx hwid (requestOutcome_fulfilled hkind o), hothers,
    if_pos hgate]

end Sys2Proof.Proofs
end

section
/-! PROOFS. Reset (spec/70_reset_and_hazards.md): the block is reset by being constructed (R340). -/

namespace Sys2Proof.Proofs

open Sys2Proof Sys2Proof.Machine

/-- Settles O51: `State.construct` writes out the table of R340, field by field, and reset is its use on the default and the open arguments. -/
theorem resetStateIsEmpty : Obligations.ResetStateIsEmpty := by
  constructor
  · intro tbl handlers cfg s
    have hengine : s.rxbuf = [] ∧ s.waiters = [] ∧ s.slots = [] := ⟨rfl, rfl, rfl⟩
    have hcounters : s.nextWid = 0 ∧ s.nextRid = 0 ∧ s.now = 0 := ⟨rfl, rfl, rfl⟩
    have hrequests : s.gate = .free ∧ s.gateQueue = [] ∧ s.reqs = [] := ⟨rfl, rfl, rfl⟩
    have harguments : s.config = cfg ∧ s.cmdTable = tbl ∧ s.handlers = handlers := ⟨rfl, rfl, rfl⟩
    have houtputs : s.tx = [] ∧ s.evt = [] ∧ s.done = [] := ⟨rfl, rfl, rfl⟩
    simp only [hengine, hcounters, hrequests, harguments, houtputs, and_self]
  · exact ⟨Config.defaultTable, Config.openHandlers, Config.default, rfl⟩

end Sys2Proof.Proofs
end

section
/-! PROOFS. Requests (spec/43_request_engine.md R241 to R247) and the gate's grant (R262): the whole next state of a request that is issued, said
once for the gate free before it, and then for a new request, for one that is held, and for one that GATE_GRANT admits. -/

namespace Sys2Proof.Proofs

open Sys2Proof Sys2Proof.Machine Sys2Proof.Claim

/-! ## The path of a request and its timeout (R241, R247) -/

theorem kindOf_of_sreq {o : CommandObject} (h : o.commandType = .sreq) : kindOf o = .ok .sreqPath := by
  simp only [kindOf, h]

theorem kindOf_of_reset {o : CommandObject} (h : o.commandType = .areq) (hreset : isReset o) : kindOf o = .ok .resetPath := by
  simp only [kindOf, h, isResetCommand_eq, decide_eq_true hreset, if_true]

theorem kindOf_of_areq {o : CommandObject} (h : o.commandType = .areq) (hreset : ¬ isReset o) : kindOf o = .ok .areqPath := by
  simp only [kindOf, h, isResetCommand_eq, decide_eq_false hreset, Bool.false_eq_true, if_false]

theorem timeoutFor_sreqPath (s : State) (o : CommandObject) : timeoutFor s.config o .sreqPath = some (sreqTimeout s o) := by
  simp only [timeoutFor, sreqTimeout, List.contains_iff_mem]

/-! ## A request is opened (R241) -/

/-- R241: the request has its handle, which is returned, and a context that has issued nothing yet. -/
def opened (o : CommandObject) (bytes : List Byte) (k : ReqKind) (e : List Int) (s : State) : State :=
  setReq s.nextRid (freshCtx s.config o bytes k e) { gives (.rid s.nextRid) s with nextRid := s.nextRid + 1 }

theorem requestOp_of_build {u : Nat} {n : String} {p : Fields} {e : List Int} {s : State} {o : CommandObject} {bytes : List Byte}
    {k : ReqKind} (h : buildRequest s.cmdTable s.config u n p = .ok (o, bytes, k)) :
    requestOp u n p e s = enterGate s.nextRid (opened o bytes k e s) := by
  simp only [requestOp, h]
  rfl

theorem exec_request_of_built {u : Nat} {n : String} {p : Fields} {e : List Int} {s : State} {o : CommandObject} {bytes : List Byte}
    {k : ReqKind} (hok : Operands.request u p e = true) (hbuilt : built s u n p o bytes) (hkind : kindOf o = .ok k) :
    exec (.request u n p e) s = .next (enterGate s.nextRid (opened o bytes k e s)) := by
  rw [exec_request_of_operands hok, requestOp_of_build (by rw [buildRequest_of_built hbuilt, hkind]; rfl)]

theorem get?_opened (o : CommandObject) (bytes : List Byte) (k : ReqKind) (e : List Int) (s : State) :
    FMap.get? s.nextRid (opened o bytes k e s).reqs = some (freshCtx s.config o bytes k e) :=
  FMap.get?_set_self ..

/-! ## A request is issued (R243 to R245) -/

/-- R243 to R245: the state in which the request, for which the gate was free, has been issued by its path; without room for its waiter it has
completed instead. -/
def granted (rid : Nat) (c : ReqCtx) (s : State) : State :=
  if c.kind ≠ .areqPath ∧ s.config.waiterCap = some s.waiters.length then
    { s with done := s.done ++ [⟨.req rid, .err .waiterTableFull⟩], reqs := FMap.erase rid s.reqs }
  else match c.kind with
    | .sreqPath => issued rid .srsp c.obj.subsystem c.obj.name (c.timeout.getD 0) c s
    | .resetPath => issued rid .areq 1 "resetInd" (c.timeout.getD 0) c s
    | .areqPath =>
      { s with tx := s.tx ++ [c.bytes], done := s.done ++ [⟨.req rid, .okNone⟩], reqs := FMap.erase rid s.reqs }

section Granted

variable {rid : Nat} {c : ReqCtx} {s : State}

theorem granted_of_full (hkind : c.kind ≠ .areqPath) (hfull : s.config.waiterCap = some s.waiters.length) :
    granted rid c s = { s with done := s.done ++ [⟨.req rid, .err .waiterTableFull⟩], reqs := FMap.erase rid s.reqs } :=
  if_pos ⟨hkind, hfull⟩

theorem granted_of_sreq (hkind : c.kind = .sreqPath) (hroom : s.config.waiterCap ≠ some s.waiters.length) :
    granted rid c s = issued rid .srsp c.obj.subsystem c.obj.name (c.timeout.getD 0) c s := by
  simp only [granted, hroom, and_false, if_false, hkind]

theorem granted_of_reset (hkind : c.kind = .resetPath) (hroom : s.config.waiterCap ≠ some s.waiters.length) :
    granted rid c s = issued rid .areq 1 "resetInd" (c.timeout.getD 0) c s := by
  simp only [granted, hroom, and_false, if_false, hkind]

theorem granted_of_areq (hkind : c.kind = .areqPath) :
    granted rid c s =
      { s with tx := s.tx ++ [c.bytes], done := s.done ++ [⟨.req rid, .okNone⟩], reqs := FMap.erase rid s.reqs } := by
  simp only [granted, hkind, ne_eq, not_true, false_and, if_false]

/-- What a request that was issued can have become: it awaits its reply, or it has completed and is gone. -/
theorem granted_cases (rid : Nat) (c : ReqCtx) (s : State) :
    (∃ t u n d, c.kind ≠ .areqPath ∧ s.config.waiterCap ≠ some s.waiters.length ∧ granted rid c s = issued rid t u n d c s) ∨
      ∃ tx out, (tx = s.tx ∨ tx = s.tx ++ [c.bytes]) ∧
        granted rid c s = { s with tx := tx, done := s.done ++ [⟨.req rid, out⟩], reqs := FMap.erase rid s.reqs } := by
  by_cases hkind : c.kind = .areqPath
  · exact .inr ⟨_, _, .inr rfl, granted_of_areq hkind⟩
  by_cases hfull : s.config.waiterCap = some s.waiters.length
  · exact .inr ⟨_, _, .inl rfl, granted_of_full hkind hfull⟩
  cases hpath : c.kind with
  | sreqPath => exact .inl ⟨_, _, _, _, nofun, hfull, granted_of_sreq hpath hfull⟩
  | resetPath => exact .inl ⟨_, _, _, _, nofun, hfull, granted_of_reset hpath hfull⟩
  | areqPath => exact absurd hpath hkind

/-- R251: a request that completes while it holds the gate, and has no waiter yet, leaves the gate free. -/
theorem completeRequest_of_holding (hgate : s.gate = .free) (hctx : FMap.get? rid s.reqs = some c) (hwid : c.wid = none)
    (out : DoneOutcome) :
    completeRequest rid out { s with gate := .held rid } =
      { s with done := s.done ++ [⟨.req rid, out⟩], reqs := FMap.erase rid s.reqs } := by
  rw [completeRequest_of_some (s := { s with gate := .held rid }) hctx, if_pos rfl, hwid, ← hgate]

theorem issueAwaiting_of_holding (hgate : s.gate = .free) (hctx : FMap.get? rid s.reqs = some c) (hwid : c.wid = none) (t : CmdType)
    (u : Subsystem) (n : String) :
    issueAwaiting rid c t u n { s with gate := .held rid } =
      if s.config.waiterCap = some s.waiters.length then
        { s with done := s.done ++ [⟨.req rid, .err .waiterTableFull⟩], reqs := FMap.erase rid s.reqs }
      else issued rid t u n (c.timeout.getD 0) c s := by
  rcases issueAwaiting_cases rid c t u n { s with gate := .held rid } with ⟨hfull, h⟩ | ⟨hroom, h⟩
  · rw [h, if_pos hfull, completeRequest_of_holding hgate hctx hwid]
  · rw [h, if_neg hroom]
    rfl

/-- R242: a request that takes the free gate is issued at once. -/
theorem issue_eq_granted (hgate : s.gate = .free) (hctx : FMap.get? rid s.reqs = some c) (hwid : c.wid = none) :
    issue rid { s with gate := .held rid } = granted rid c s := by
  have hawait := issueAwaiting_of_holding hgate hctx hwid
  cases hkind : c.kind with
  | sreqPath => simp only [issue, hctx, hkind, hawait, granted, ne_eq, reduceCtorEq, not_false_eq_true, true_and]
  | resetPath =>
    simp only [issue, hctx, hkind, hawait, granted, ne_eq, reduceCtorEq, not_false_eq_true, true_and]
    rfl
  | areqPath =>
    rw [granted_of_areq hkind]
    have hdone := completeRequest_of_holding (s := emitTx c.bytes (setReq rid { c with phase := .sent } s)) hgate
      (FMap.get?_set_self ..) hwid .okNone
    have hgone : FMap.erase rid (setReq rid { c with phase := .sent } s).reqs = FMap.erase rid s.reqs := FMap.erase_set_self ..
    rw [emitTx_reqs, hgone] at hdone
    simp only [issue, hctx, hkind]
    rw [setPhase_of_some (s := { s with gate := .held rid }) hctx]
    exact hdone

end Granted

theorem enterGate_of_free {rid : Nat} {c : ReqCtx} {s : State} (hgate : s.gate = .free) (hctx : FMap.get? rid s.reqs = some c)
    (hwid : c.wid = none) : enterGate rid s = granted rid c s := by
  rw [← issue_eq_granted hgate hctx hwid]
  simp only [enterGate, hgate]

/-! ## REQUEST (R241 to R247) -/

theorem exec_request_of_free {u : Nat} {n : String} {p : Fields} {e : List Int} {s : State} {o : CommandObject} {bytes : List Byte}
    {k : ReqKind} (hok : Operands.request u p e = true) (hbuilt : built s u n p o bytes) (hkind : kindOf o = .ok k)
    (hgate : s.gate = .free) :
    exec (.request u n p e) s = .next (granted s.nextRid (freshCtx s.config o bytes k e) (opened o bytes k e s)) := by
  rw [exec_request_of_built hok hbuilt hkind, enterGate_of_free (s := opened o bytes k e s) hgate (get?_opened ..) rfl]

/-- A request that is issued overwrites the context that it had when it was opened. -/
theorem issued_setReq (rid : Nat) (t : CmdType) (u : Subsystem) (n : String) (d : Nat) (c c' : ReqCtx) (s : State) :
    issued rid t u n d c (setReq rid c' s) = issued rid t u n d c s := by
  simp only [issued, setReq, FMap.set_set_self]

/-- Settles O35: the gate is free and there is room, so the request is issued by its path. -/
theorem requestIsIssued : Obligations.RequestIsIssued := by
  intro u n p e o bytes s hok hbuilt hgate hroom
  refine ⟨?_, ?_⟩
  · intro htype
    rw [exec_request_of_free hok hbuilt (kindOf_of_sreq htype) hgate, granted_of_sreq (s := opened ..) rfl hroom, opened, issued_setReq,
      freshCtx, timeoutFor_sreqPath]
    rfl
  · intro htype hreset
    rw [exec_request_of_free hok hbuilt (kindOf_of_reset htype hreset) hgate, granted_of_reset (s := opened ..) rfl hroom, opened,
      issued_setReq]
    rfl

theorem erase_of_fresh {α : Type} {k : Nat} {m : List (Nat × α)} (h : ∀ e ∈ m, e.1 < k) : FMap.erase k m = m :=
  List.filter_eq_self.2 fun e he => bne_iff_ne.2 (h e he).ne

/-- A request that is gone again has left nothing in `REQS`. -/
theorem erase_opened {o : CommandObject} {bytes : List Byte} {k : ReqKind} {e : List Int} {s : State} (h : s.handlesDrawn) :
    FMap.erase s.nextRid (opened o bytes k e s).reqs = s.reqs := by
  obtain ⟨-, hreqs⟩ := h
  rw [opened, setReq, FMap.erase_set_self]
  exact erase_of_fresh hreqs

/-- Settles O36: its path has no waiter, and its context goes in the step that made it. -/
theorem plainAreqCompletesAtOnce : Obligations.PlainAreqCompletesAtOnce := by
  intro u n p e o bytes s hok hbuilt hgate hdrawn htype hreset
  rw [exec_request_of_free hok hbuilt (kindOf_of_areq htype hreset) hgate, granted_of_areq (s := opened ..) rfl, erase_opened hdrawn]
  rfl

/-- Settles O39: the two paths that need a waiter find none to be had. -/
theorem requestWithoutRoomFails : Obligations.RequestWithoutRoomFails := by
  intro u n p e o bytes s hok hbuilt hgate hdrawn hfull htype
  have hpath : ∃ k, k ≠ .areqPath ∧ kindOf o = .ok k := by
    rcases htype with hsreq | ⟨hareq, hreset⟩
    · exact ⟨.sreqPath, nofun, kindOf_of_sreq hsreq⟩
    · exact ⟨.resetPath, nofun, kindOf_of_reset hareq hreset⟩
  obtain ⟨k, hk, hkind⟩ := hpath
  rw [exec_request_of_free hok hbuilt hkind hgate, granted_of_full (s := opened ..) hk hfull, erase_opened hdrawn]
  rfl

theorem enterGate_of_held {rid h : Nat} {c : ReqCtx} {s : State} (hgate : s.gate = .held h) (hctx : FMap.get? rid s.reqs = some c) :
    enterGate rid s =
      { s with gateQueue := NSet.insert rid s.gateQueue, reqs := FMap.set rid { c with phase := .waitGate } s.reqs } := by
  simp only [enterGate, hgate, setPhase_of_some hctx]

/-- R242: the state in which a request that found the gate held waits for it. -/
theorem enterGate_opened_of_held {h : Nat} {s : State} (hgate : s.gate = .held h) (o : CommandObject) (bytes : List Byte) (k : ReqKind)
    (e : List Int) :
    enterGate s.nextRid (opened o bytes k e s) =
      { gives (.rid s.nextRid) s with
        nextRid := s.nextRid + 1
        gateQueue := NSet.insert s.nextRid s.gateQueue
        reqs := FMap.set s.nextRid ⟨.waitGate, o, bytes, k, e, none, timeoutFor s.config o k⟩ s.reqs } := by
  rw [enterGate_of_held (s := opened o bytes k e s) hgate (get?_opened ..)]
  simp only [opened, setReq, FMap.set_set_self]
  rfl

/-- Settles O37: the gate is held, so the request waits with the context of its path. -/
theorem requestWaitsForGate : Obligations.RequestWaitsForGate := by
  intro u n p e o bytes s h hok hbuilt hgate htype
  have hpath : ∃ k, kindOf o = .ok k ∧ (o.commandType = .sreq → k = .sreqPath) ∧ (o.commandType = .areq → isReset o → k = .resetPath) ∧
      (o.commandType = .areq → ¬ isReset o → k = .areqPath) := by
    rcases htype with hsreq | hareq
    · exact ⟨_, kindOf_of_sreq hsreq, fun _ => rfl, by simp [hsreq], by simp [hsreq]⟩
    · by_cases hreset : isReset o
      · exact ⟨_, kindOf_of_reset hareq hreset, by simp [hareq], fun _ _ => rfl, fun _ hnot => absurd hreset hnot⟩
      · exact ⟨_, kindOf_of_areq hareq hreset, by simp [hareq], fun _ h => absurd h hreset, fun _ _ => rfl⟩
  obtain ⟨k, hkind, hsreq, hreset, hareq⟩ := hpath
  refine ⟨k, timeoutFor s.config o k, ?_, ?_, ?_, hareq⟩
  · rw [exec_request_of_built hok hbuilt hkind, enterGate_opened_of_held hgate]
  · intro h
    obtain rfl := hsreq h
    exact ⟨rfl, timeoutFor_sreqPath s o⟩
  · intro h h'
    obtain rfl := hreset h h'
    exact ⟨rfl, rfl⟩

/-! ## AWAIT (R254) -/

theorem exec_await (w : Nat) (s : State) : exec (.await w) s = .next (awaitOp w s) := rfl

theorem requestOwned_iff (w : Nat) (s : State) : requestOwned w s = true ↔ ∃ x ∈ s.waiters, x.wid = w ∧ x.owner ≠ .caller := by
  simp [requestOwned, List.any_eq_true]

theorem requestOwned_eq_false {w : Nat} {s : State} (h : ∀ x ∈ s.waiters, x.wid = w → x.owner = .caller) : requestOwned w s = false := by
  rw [Bool.eq_false_iff, Ne, requestOwned_iff]
  rintro ⟨x, hx, hwid, howner⟩
  exact howner (h x hx hwid)

theorem awaitOp_of_pending {w : Nat} {s : State} (hslot : FMap.get? w s.slots = some ⟨.pending, false⟩) (hfree : requestOwned w s = false) :
    awaitOp w s = { returns (.hold w) s with slots := FMap.set w ⟨.pending, true⟩ s.slots } := by
  simp only [awaitOp, hslot, hfree, Bool.or_self, Bool.false_eq_true, if_false, slotOutcome]
  rfl

theorem awaitOp_of_settled {w : Nat} {s : State} {r : SlotResult} {out : DoneOutcome} (hslot : FMap.get? w s.slots = some ⟨r, false⟩)
    (hfree : requestOwned w s = false) (hout : slotOutcome r = some out) :
    awaitOp w s = { returns (outcomeResponse out) s with slots := FMap.erase w s.slots } := by
  simp only [awaitOp, hslot, hfree, Bool.or_self, Bool.false_eq_true, if_false, hout]
  rfl

theorem awaitOp_of_refused {w : Nat} {s : State}
    (h : FMap.get? w s.slots = none ∨ requestOwned w s = true ∨ (FMap.get? w s.slots).any (·.awaited) = true) :
    awaitOp w s = fails (.badHandle w) s := by
  cases hslot : FMap.get? w s.slots with
  | none =>
    simp only [awaitOp, hslot]
    rfl
  | some sl =>
    have hrefused : (requestOwned w s || sl.awaited) = true := by simpa [hslot] using h
    simp only [awaitOp, hslot, hrefused, if_true]
    rfl

/-- Settles O41: the slot of the handle decides, after its owner. -/
theorem awaitHoldsOrReturns : Obligations.AwaitHoldsOrReturns := by
  intro w s
  refine ⟨?_, ?_, ?_⟩
  · intro hslot howner
    rw [exec_await, awaitOp_of_pending hslot (requestOwned_eq_false howner)]
  · intro r out hslot habsent hout
    have hfree : requestOwned w s = false := requestOwned_eq_false fun x hx hwid => absurd hwid (habsent x hx)
    rw [exec_await]
    rcases hout with ⟨o, rfl, rfl⟩ | ⟨u, n, rfl, rfl⟩ | ⟨rfl, rfl⟩ | ⟨rfl, rfl⟩
    all_goals exact congrArg _ (awaitOp_of_settled hslot hfree rfl)
  · intro hrefused
    rw [← requestOwned_iff] at hrefused
    rw [exec_await, awaitOp_of_refused hrefused]

/-! ## A frame that fulfils a caller's waiter (R257, R259) -/

/-- Settles O46: the frame settles the first waiter it matches, whose slot says whether an AWAIT is held on it. -/
theorem frameFulfilsCallersWaiter : Obligations.FrameFulfilsCallersWaiter := by
  intro s f o older newer x hcanonical hfirst howner
  obtain ⟨hrising, -⟩ := hcanonical
  have hothers : s.waiters.filter (fun y => y.wid ≠ x.wid) = older ++ newer := by
    obtain ⟨-, -, hsplit, -⟩ := hfirst
    exact filter_wid_ne_of_split hrising hsplit
  refine ⟨?_, ?_⟩
  · intro hslot
    rw [exec_frameReceived_of_firstMatch hfirst, settle_of_unheld howner hslot, hothers]
  · intro hslot
    rw [exec_frameReceived_of_firstMatch hfirst, settle_of_held howner hslot rfl, hothers]

end Sys2Proof.Proofs
end

section
/-! PROOFS. The invariant of the Request Engine's state (spec/10_state.md R21 to R29) in two halves: the waiters with their slots, and the requests
with the gate and its queue. For each half, that every write the engine makes to it keeps it. -/

namespace Sys2Proof.Proofs

open Sys2Proof Sys2Proof.Machine Sys2Proof.Claim

/-- R21 to R24, R254: the waiters and the slots fit each other, and every slot's handle was drawn. -/
structure SlotsMatch (waiters : List Waiter) (slots : List (Nat × Slot)) (nextWid : Nat) : Prop where
  rising : NSet.wf (waiters.map (·.wid)) = true
  wf : FMap.wf slots = true
  drawn : ∀ e ∈ slots, e.1 < nextWid
  pending : ∀ e ∈ slots, e.2.result = .pending ↔ ∃ x ∈ waiters, x.wid = e.1
  slotted : ∀ x ∈ waiters, ∃ e ∈ slots, e.1 = x.wid
  held : ∀ e ∈ slots, e.2.awaited = true → ∃ x ∈ waiters, x.wid = e.1 ∧ x.owner = .caller

/-- R22, R24 to R29: the requests, the gate, its queue and the waiters that requests own fit each other, and every request's handle was drawn. -/
structure RequestsMatch (waiters : List Waiter) (gate : Gate) (queue : List Nat) (reqs : List (Nat × ReqCtx)) (nextRid : Nat) : Prop where
  wf : FMap.wf reqs = true
  queueWf : NSet.wf queue = true
  drawn : ∀ e ∈ reqs, e.1 < nextRid
  phased : ∀ e ∈ reqs, (e.2.phase = .waitGate ∧ e.1 ∈ queue ∧ e.2.wid = none) ∨
    (e.2.phase = .awaitingReply ∧ gate = .held e.1 ∧ e.2.kind ≠ .areqPath ∧ ∃ x ∈ waiters, e.2.wid = some x.wid ∧ x.owner = .req e.1)
  queued : ∀ rid ∈ queue, ∃ e ∈ reqs, e.1 = rid ∧ e.2.phase = .waitGate
  gated : gate = .free ∨ ∃ e ∈ reqs, gate = .held e.1 ∧ e.2.phase = .awaitingReply
  owned : ∀ x ∈ waiters, x.owner = .caller ∨
    ∃ e ∈ reqs, x.owner = .req e.1 ∧ e.2.phase = .awaitingReply ∧ e.2.wid = some x.wid

theorem inv_iff (s : State) :
    s.Inv ↔ SlotsMatch s.waiters s.slots s.nextWid ∧ RequestsMatch s.waiters s.gate s.gateQueue s.reqs s.nextRid := by
  constructor
  · rintro ⟨⟨hrising, hslots, hreqs, hqueue⟩, ⟨hwids, hrids⟩, ⟨hpending, hslotted⟩, hphased, hqueued, hgated, howned, hheld⟩
    exact ⟨⟨hrising, hslots, hwids, hpending, hslotted, hheld⟩, ⟨hreqs, hqueue, hrids, hphased, hqueued, hgated, howned⟩⟩
  · rintro ⟨h, h'⟩
    exact ⟨⟨h.rising, h.wf, h'.wf, h'.queueWf⟩, ⟨h.drawn, h'.drawn⟩, ⟨h.pending, h.slotted⟩, h'.phased, h'.queued, h'.gated, h'.owned,
      h.held⟩

/-! ## Keys and handles -/

/-- In a canonical map a key has one entry. -/
theorem entry_unique {α : Type} {m : List (Nat × α)} (hm : FMap.wf m = true) {e e' : Nat × α} (he : e ∈ m) (he' : e' ∈ m)
    (hkey : e.1 = e'.1) : e = e' := by
  obtain ⟨k, v⟩ := e
  obtain ⟨k', v'⟩ := e'
  obtain rfl : k = k' := hkey
  have hv := FMap.get?_of_mem hm he
  rw [FMap.get?_of_mem hm he', Option.some.injEq] at hv
  rw [hv]

theorem waiter_unique {waiters : List Waiter} (hrising : NSet.wf (waiters.map (·.wid)) = true) {x y : Waiter} (hx : x ∈ waiters)
    (hy : y ∈ waiters) (hwid : x.wid = y.wid) : x = y :=
  List.inj_on_of_nodup_map (nodup_wids hrising) hx hy hwid

theorem mem_filter_wid {waiters : List Waiter} {w : Nat} {x : Waiter} :
    x ∈ waiters.filter (fun y => y.wid ≠ w) ↔ x ∈ waiters ∧ x.wid ≠ w := by
  simp

theorem rising_filter {waiters : List Waiter} (h : NSet.wf (waiters.map (·.wid)) = true) (f : Waiter → Bool) :
    NSet.wf ((waiters.filter f).map (·.wid)) = true := by
  rw [NSet.wf_iff_pairwise] at *
  exact h.sublist (List.filter_sublist.map _)

/-! ## The waiters with their slots -/

namespace SlotsMatch

variable {waiters : List Waiter} {slots : List (Nat × Slot)} {n : Nat} {w : Nat}

theorem wid_lt (h : SlotsMatch waiters slots n) {x : Waiter} (hx : x ∈ waiters) : x.wid < n := by
  obtain ⟨e, he, hkey⟩ := h.slotted x hx
  exact hkey ▸ h.drawn e he

/-- R23: the slot of a pending waiter. -/
theorem slot_of_mem (h : SlotsMatch waiters slots n) {x : Waiter} (hx : x ∈ waiters) :
    ∃ a, FMap.get? x.wid slots = some ⟨.pending, a⟩ := by
  obtain ⟨⟨k, sl⟩, he, hkey⟩ := h.slotted x hx
  have hpending := (h.pending _ he).2 ⟨x, hx, hkey.symm⟩
  obtain ⟨r, a⟩ := sl
  obtain rfl : r = .pending := hpending
  obtain rfl : k = x.wid := hkey
  exact ⟨a, FMap.get?_of_mem h.wf he⟩

/-- A waiter leaves the pending set together with its slot. -/
theorem drop (h : SlotsMatch waiters slots n) (w : Nat) : SlotsMatch (waiters.filter (fun y => y.wid ≠ w)) (FMap.erase w slots) n where
  rising := rising_filter h.rising _
  wf := FMap.wf_erase w slots h.wf
  drawn e he := h.drawn e ((FMap.mem_erase w slots e).1 he).1
  pending e he := by
    obtain ⟨he, hne⟩ := (FMap.mem_erase w slots e).1 he
    rw [h.pending e he]
    exact ⟨fun ⟨x, hx, hk⟩ => ⟨x, mem_filter_wid.2 ⟨hx, hk ▸ hne⟩, hk⟩, fun ⟨x, hx, hk⟩ => ⟨x, (mem_filter_wid.1 hx).1, hk⟩⟩
  slotted x hx := by
    obtain ⟨hx, hne⟩ := mem_filter_wid.1 hx
    obtain ⟨e, he, hk⟩ := h.slotted x hx
    exact ⟨e, (FMap.mem_erase w slots e).2 ⟨he, hk ▸ hne⟩, hk⟩
  held e he ha := by
    obtain ⟨he, hne⟩ := (FMap.mem_erase w slots e).1 he
    obtain ⟨x, hx, hk, ho⟩ := h.held e he ha
    exact ⟨x, mem_filter_wid.2 ⟨hx, hk ▸ hne⟩, hk, ho⟩

/-- A waiter leaves the pending set and its result stays in its slot. -/
theorem latch (h : SlotsMatch waiters slots n) (hw : w < n) {r : SlotResult} (hr : r ≠ .pending) :
    SlotsMatch (waiters.filter (fun y => y.wid ≠ w)) (FMap.set w ⟨r, false⟩ slots) n where
  rising := rising_filter h.rising _
  wf := FMap.wf_set w _ slots h.wf
  drawn e he := by
    rcases (FMap.mem_set h.wf e).1 he with rfl | ⟨he, -⟩
    · exact hw
    · exact h.drawn e he
  pending e he := by
    rcases (FMap.mem_set h.wf e).1 he with rfl | ⟨he, hne⟩
    · exact ⟨fun hp => absurd hp hr, fun ⟨x, hx, hk⟩ => absurd hk (mem_filter_wid.1 hx).2⟩
    · rw [h.pending e he]
      exact ⟨fun ⟨x, hx, hk⟩ => ⟨x, mem_filter_wid.2 ⟨hx, hk ▸ hne⟩, hk⟩, fun ⟨x, hx, hk⟩ => ⟨x, (mem_filter_wid.1 hx).1, hk⟩⟩
  slotted x hx := by
    obtain ⟨hx, hne⟩ := mem_filter_wid.1 hx
    obtain ⟨e, he, hk⟩ := h.slotted x hx
    exact ⟨e, (FMap.mem_set h.wf e).2 (.inr ⟨he, hk ▸ hne⟩), hk⟩
  held e he ha := by
    rcases (FMap.mem_set h.wf e).1 he with rfl | ⟨he, hne⟩
    · cases ha
    · obtain ⟨x, hx, hk, ho⟩ := h.held e he ha
      exact ⟨x, mem_filter_wid.2 ⟨hx, hk ▸ hne⟩, hk, ho⟩

/-- R265: a waiter enters the pending set under the next handle. -/
theorem register (h : SlotsMatch waiters slots n) {x : Waiter} (hwid : x.wid = n) :
    SlotsMatch (waiters ++ [x]) (FMap.set n ⟨.pending, false⟩ slots) (n + 1) where
  rising := by
    rw [NSet.wf_iff_pairwise, List.map_append, List.pairwise_append, ← NSet.wf_iff_pairwise]
    refine ⟨h.rising, List.pairwise_singleton _ _, ?_⟩
    intro a ha b hb
    obtain ⟨y, hy, rfl⟩ := List.mem_map.1 ha
    obtain rfl : b = x.wid := List.mem_singleton.1 hb
    exact hwid ▸ h.wid_lt hy
  wf := FMap.wf_set n _ slots h.wf
  drawn e he := by
    rcases (FMap.mem_set h.wf e).1 he with rfl | ⟨he, -⟩
    · exact Nat.lt_succ_self n
    · exact Nat.lt_succ_of_lt (h.drawn e he)
  pending e he := by
    rcases (FMap.mem_set h.wf e).1 he with rfl | ⟨he, hne⟩
    · exact ⟨fun _ => ⟨x, by simp, hwid⟩, fun _ => rfl⟩
    · rw [h.pending e he]
      constructor
      · rintro ⟨y, hy, hk⟩
        exact ⟨y, List.mem_append_left _ hy, hk⟩
      · rintro ⟨y, hy, hk⟩
        rcases List.mem_append.1 hy with hy | hy
        · exact ⟨y, hy, hk⟩
        · rw [List.mem_singleton.1 hy, hwid] at hk
          exact absurd hk.symm hne
  slotted y hy := by
    rcases List.mem_append.1 hy with hy | hy
    · obtain ⟨e, he, hk⟩ := h.slotted y hy
      exact ⟨e, (FMap.mem_set h.wf e).2 (.inr ⟨he, (h.drawn e he).ne⟩), hk⟩
    · rw [List.mem_singleton.1 hy, hwid]
      exact ⟨_, (FMap.mem_set h.wf _).2 (.inl rfl), rfl⟩
  held e he ha := by
    rcases (FMap.mem_set h.wf e).1 he with rfl | ⟨he, hne⟩
    · cases ha
    · obtain ⟨y, hy, hk, ho⟩ := h.held e he ha
      exact ⟨y, List.mem_append_left _ hy, hk, ho⟩

/-- R254: an AWAIT is held on a caller's pending waiter. -/
theorem hold (h : SlotsMatch waiters slots n) {x : Waiter} (hx : x ∈ waiters) (howner : x.owner = .caller) :
    SlotsMatch waiters (FMap.set x.wid ⟨.pending, true⟩ slots) n where
  rising := h.rising
  wf := FMap.wf_set x.wid _ slots h.wf
  drawn e he := by
    rcases (FMap.mem_set h.wf e).1 he with rfl | ⟨he, -⟩
    · exact h.wid_lt hx
    · exact h.drawn e he
  pending e he := by
    rcases (FMap.mem_set h.wf e).1 he with rfl | ⟨he, -⟩
    · exact ⟨fun _ => ⟨x, hx, rfl⟩, fun _ => rfl⟩
    · exact h.pending e he
  slotted y hy := by
    by_cases hwid : y.wid = x.wid
    · exact ⟨_, (FMap.mem_set h.wf _).2 (.inl rfl), hwid.symm⟩
    · obtain ⟨e, he, hk⟩ := h.slotted y hy
      exact ⟨e, (FMap.mem_set h.wf e).2 (.inr ⟨he, hk ▸ hwid⟩), hk⟩
  held e he ha := by
    rcases (FMap.mem_set h.wf e).1 he with rfl | ⟨he, -⟩
    · exact ⟨x, hx, rfl, howner⟩
    · exact h.held e he ha

/-- R254: a settled slot is consumed. -/
theorem consume (h : SlotsMatch waiters slots n) {sl : Slot} (hslot : FMap.get? w slots = some sl) (hsettled : sl.result ≠ .pending) :
    SlotsMatch waiters (FMap.erase w slots) n := by
  have hgone : waiters.filter (fun y => y.wid ≠ w) = waiters :=
    List.filter_eq_self.2 fun y hy => decide_eq_true fun hwid =>
      hsettled ((h.pending _ (FMap.mem_of_get? hslot)).2 ⟨y, hy, hwid⟩)
  simpa only [hgone] using h.drop w

end SlotsMatch

/-! ## The requests with the gate and its queue -/

namespace RequestsMatch

variable {waiters : List Waiter} {gate : Gate} {queue : List Nat} {reqs : List (Nat × ReqCtx)} {n rid : Nat} {c : ReqCtx} {x : Waiter}

/-- R28, R29: the context of a queued request. -/
theorem waitGate_of_queued (h : RequestsMatch waiters gate queue reqs n) (hq : rid ∈ queue) :
    ∃ c, FMap.get? rid reqs = some c ∧ c.phase = .waitGate ∧ c.wid = none := by
  obtain ⟨⟨_, c⟩, he, rfl, hphase⟩ := h.queued rid hq
  refine ⟨c, FMap.get?_of_mem h.wf he, hphase, ?_⟩
  rcases h.phased _ he with ⟨-, -, hwid⟩ | ⟨hawait, -⟩
  · exact hwid
  · exact absurd (hphase.symm.trans hawait) nofun

/-- R22, R26: a waiter that a request owns is the one that the holder of the gate awaits. -/
theorem holder_of_owner (h : RequestsMatch waiters gate queue reqs n) (hx : x ∈ waiters) (howner : x.owner = .req rid) :
    gate = .held rid ∧ ∃ c, FMap.get? rid reqs = some c ∧ c.phase = .awaitingReply ∧ c.wid = some x.wid ∧ c.kind ≠ .areqPath := by
  rcases h.owned x hx with hcaller | ⟨⟨k, c⟩, he, hreq, hphase, hwid⟩
  · rw [howner] at hcaller
    cases hcaller
  · rw [howner, Owner.req.injEq] at hreq
    subst hreq
    rcases h.phased _ he with ⟨hwait, -⟩ | ⟨-, hgate, hkind, -⟩
    · exact absurd (hwait.symm.trans hphase) nofun
    · exact ⟨hgate, c, FMap.get?_of_mem h.wf he, hphase, hwid, hkind⟩

theorem gate_of_awaiting (h : RequestsMatch waiters gate queue reqs n) {e : Nat × ReqCtx} (he : e ∈ reqs)
    (hphase : e.2.phase = .awaitingReply) : gate = .held e.1 := by
  rcases h.phased e he with ⟨hwait, -⟩ | ⟨-, hgate, -⟩
  · exact absurd (hwait.symm.trans hphase) nofun
  · exact hgate

theorem queue_lt (h : RequestsMatch waiters gate queue reqs n) (hq : rid ∈ queue) : rid < n := by
  obtain ⟨e, he, rfl, -⟩ := h.queued rid hq
  exact h.drawn e he

/-- A queued request goes. -/
theorem dropQueued (h : RequestsMatch waiters gate queue reqs n) (hq : rid ∈ queue) :
    RequestsMatch waiters gate (NSet.erase rid queue) (FMap.erase rid reqs) n := by
  obtain ⟨c, hctx, hwait, -⟩ := h.waitGate_of_queued hq
  have hother : ∀ e ∈ reqs, e.2.phase = .awaitingReply → e.1 ≠ rid := by
    rintro ⟨k, c'⟩ he hphase rfl
    rw [FMap.get?_of_mem h.wf he, Option.some.injEq] at hctx
    subst hctx
    exact absurd (hwait.symm.trans hphase) nofun
  refine ⟨FMap.wf_erase rid reqs h.wf, NSet.wf_erase rid queue h.queueWf, fun e he => h.drawn e ((FMap.mem_erase ..).1 he).1, ?_, ?_, ?_, ?_⟩
  · intro e he
    obtain ⟨he, hne⟩ := (FMap.mem_erase ..).1 he
    rcases h.phased e he with ⟨hphase, hmem, hwid⟩ | hawait
    · exact .inl ⟨hphase, (NSet.mem_erase ..).2 ⟨hmem, hne⟩, hwid⟩
    · exact .inr hawait
  · intro q hq'
    obtain ⟨hq', hne⟩ := (NSet.mem_erase ..).1 hq'
    obtain ⟨e, he, hk, hphase⟩ := h.queued q hq'
    exact ⟨e, (FMap.mem_erase ..).2 ⟨he, hk ▸ hne⟩, hk, hphase⟩
  · rcases h.gated with hfree | ⟨e, he, hgate, hphase⟩
    · exact .inl hfree
    · exact .inr ⟨e, (FMap.mem_erase ..).2 ⟨he, hother e he hphase⟩, hgate, hphase⟩
  · intro y hy
    rcases h.owned y hy with hcaller | ⟨e, he, hreq, hphase, hwid⟩
    · exact .inl hcaller
    · exact .inr ⟨e, (FMap.mem_erase ..).2 ⟨he, hother e he hphase⟩, hreq, hphase, hwid⟩

/-- R251: the request that holds the gate goes, with its waiter. -/
theorem dropHolder (h : RequestsMatch waiters gate queue reqs n) (hx : x ∈ waiters) (howner : x.owner = .req rid) :
    RequestsMatch (waiters.filter (fun y => y.wid ≠ x.wid)) .free queue (FMap.erase rid reqs) n := by
  obtain ⟨hgate, c, hctx, hawait, hwid, -⟩ := h.holder_of_owner hx howner
  have hwaiting : ∀ e ∈ reqs, e.1 ≠ rid → e.2.phase = .waitGate ∧ e.1 ∈ queue ∧ e.2.wid = none := by
    intro e he hne
    refine (h.phased e he).resolve_right ?_
    rintro ⟨-, hheld, -⟩
    rw [hgate, Gate.held.injEq] at hheld
    exact hne hheld.symm
  refine ⟨FMap.wf_erase rid reqs h.wf, h.queueWf, fun e he => h.drawn e ((FMap.mem_erase ..).1 he).1, ?_, ?_, .inl rfl, ?_⟩
  · intro e he
    obtain ⟨he, hne⟩ := (FMap.mem_erase ..).1 he
    exact .inl (hwaiting e he hne)
  · intro q hq
    obtain ⟨e, he, rfl, hphase⟩ := h.queued q hq
    refine ⟨e, (FMap.mem_erase ..).2 ⟨he, ?_⟩, rfl, hphase⟩
    intro hkey
    have hsame : e = (rid, c) := entry_unique h.wf he (FMap.mem_of_get? hctx) hkey
    rw [hsame] at hphase
    exact absurd (hphase.symm.trans hawait) nofun
  · intro y hy
    obtain ⟨hy, hne⟩ := mem_filter_wid.1 hy
    refine .inl ((h.owned y hy).resolve_right ?_)
    rintro ⟨e, he, -, hphase, hywid⟩
    have hheld := h.gate_of_awaiting he hphase
    rw [hgate, Gate.held.injEq] at hheld
    have hsame : e = (rid, c) := entry_unique h.wf he (FMap.mem_of_get? hctx) hheld.symm
    rw [hsame, hwid, Option.some.injEq] at hywid
    exact hne hywid.symm

/-- A caller's waiter goes. -/
theorem dropCaller (h : RequestsMatch waiters gate queue reqs n) (hrising : NSet.wf (waiters.map (·.wid)) = true) (hx : x ∈ waiters)
    (howner : x.owner = .caller) : RequestsMatch (waiters.filter (fun y => y.wid ≠ x.wid)) gate queue reqs n := by
  refine ⟨h.wf, h.queueWf, h.drawn, ?_, h.queued, h.gated, fun y hy => h.owned y (mem_filter_wid.1 hy).1⟩
  intro e he
  rcases h.phased e he with hwait | ⟨hphase, hgate, hkind, y, hy, hwid, hreq⟩
  · exact .inl hwait
  · refine .inr ⟨hphase, hgate, hkind, y, mem_filter_wid.2 ⟨hy, ?_⟩, hwid, hreq⟩
    intro hsame
    rw [waiter_unique hrising hy hx hsame, howner] at hreq
    cases hreq

/-- A caller registers a waiter. -/
theorem addCaller (h : RequestsMatch waiters gate queue reqs n) (howner : x.owner = .caller) :
    RequestsMatch (waiters ++ [x]) gate queue reqs n := by
  refine ⟨h.wf, h.queueWf, h.drawn, ?_, h.queued, h.gated, ?_⟩
  · intro e he
    rcases h.phased e he with hwait | ⟨hphase, hgate, hkind, y, hy, hwid, hreq⟩
    · exact .inl hwait
    · exact .inr ⟨hphase, hgate, hkind, y, List.mem_append_left _ hy, hwid, hreq⟩
  · intro y hy
    rcases List.mem_append.1 hy with hy | hy
    · exact h.owned y hy
    · rw [List.mem_singleton.1 hy]
      exact .inl howner

/-- R242: a new request is queued. -/
theorem enqueue (h : RequestsMatch waiters gate queue reqs n) (hphase : c.phase = .waitGate) (hwid : c.wid = none) :
    RequestsMatch waiters gate (NSet.insert n queue) (FMap.set n c reqs) (n + 1) := by
  have hset : ∀ e ∈ reqs, e ∈ FMap.set n c reqs := fun e he => (FMap.mem_set h.wf e).2 (.inr ⟨he, (h.drawn e he).ne⟩)
  refine ⟨FMap.wf_set n c reqs h.wf, NSet.wf_insert n queue h.queueWf, ?_, ?_, ?_, ?_, ?_⟩
  · intro e he
    rcases (FMap.mem_set h.wf e).1 he with rfl | ⟨he, -⟩
    · exact Nat.lt_succ_self n
    · exact Nat.lt_succ_of_lt (h.drawn e he)
  · intro e he
    rcases (FMap.mem_set h.wf e).1 he with rfl | ⟨he, -⟩
    · exact .inl ⟨hphase, (NSet.mem_insert ..).2 (.inl rfl), hwid⟩
    · rcases h.phased e he with ⟨hwait, hmem, hnone⟩ | hawait
      · exact .inl ⟨hwait, (NSet.mem_insert ..).2 (.inr hmem), hnone⟩
      · exact .inr hawait
  · intro q hq
    rcases (NSet.mem_insert ..).1 hq with rfl | hq
    · exact ⟨(q, c), (FMap.mem_set h.wf _).2 (.inl rfl), rfl, hphase⟩
    · obtain ⟨e, he, hk, hwait⟩ := h.queued q hq
      exact ⟨e, hset e he, hk, hwait⟩
  · rcases h.gated with hfree | ⟨e, he, hgate, hawait⟩
    · exact .inl hfree
    · exact .inr ⟨e, hset e he, hgate, hawait⟩
  · intro y hy
    rcases h.owned y hy with hcaller | ⟨e, he, hreq, hawait, hw⟩
    · exact .inl hcaller
    · exact .inr ⟨e, hset e he, hreq, hawait, hw⟩

/-- R243, R244: a queued request takes the free gate and awaits its reply on a waiter of its own. -/
theorem takeGate (h : RequestsMatch waiters .free queue reqs n) (hq : rid ∈ queue) (hkind : c.kind ≠ .areqPath) (howner : x.owner = .req rid) :
    RequestsMatch (waiters ++ [x]) (.held rid) (NSet.erase rid queue)
      (FMap.set rid { c with phase := .awaitingReply, wid := some x.wid } reqs) n := by
  have hwaiting : ∀ e ∈ reqs, e.2.phase = .waitGate ∧ e.1 ∈ queue ∧ e.2.wid = none := fun e he =>
    (h.phased e he).resolve_right fun ⟨_, hgate, _⟩ => nomatch hgate
  have hnew : (rid, { c with phase := .awaitingReply, wid := some x.wid }) ∈
      FMap.set rid { c with phase := .awaitingReply, wid := some x.wid } reqs := (FMap.mem_set h.wf _).2 (.inl rfl)
  refine ⟨FMap.wf_set rid _ reqs h.wf, NSet.wf_erase rid queue h.queueWf, ?_, ?_, ?_, .inr ⟨_, hnew, rfl, rfl⟩, ?_⟩
  · intro e he
    rcases (FMap.mem_set h.wf e).1 he with rfl | ⟨he, -⟩
    · exact h.queue_lt hq
    · exact h.drawn e he
  · intro e he
    rcases (FMap.mem_set h.wf e).1 he with rfl | ⟨he, hne⟩
    · exact .inr ⟨rfl, rfl, hkind, x, by simp, rfl, howner⟩
    · obtain ⟨hphase, hmem, hwid⟩ := hwaiting e he
      exact .inl ⟨hphase, (NSet.mem_erase ..).2 ⟨hmem, hne⟩, hwid⟩
  · intro q hq'
    obtain ⟨hq', hne⟩ := (NSet.mem_erase ..).1 hq'
    obtain ⟨e, he, hk, hphase⟩ := h.queued q hq'
    exact ⟨e, (FMap.mem_set h.wf e).2 (.inr ⟨he, hk ▸ hne⟩), hk, hphase⟩
  · intro y hy
    rcases List.mem_append.1 hy with hy | hy
    · refine .inl ((h.owned y hy).resolve_right ?_)
      rintro ⟨e, he, -, hphase, -⟩
      exact absurd ((hwaiting e he).1.symm.trans hphase) nofun
    · rw [List.mem_singleton.1 hy]
      exact .inr ⟨_, hnew, howner, rfl, rfl⟩

end RequestsMatch

end Sys2Proof.Proofs
end

section
/-! PROOFS. Waiters settled one after the other, the gate's grant and the failure of the held requests (spec/43_request_engine.md R250 to R263), in
every state that meets the invariant: the whole next state of each, and that it meets the invariant again. -/

namespace Sys2Proof.Proofs

open Sys2Proof Sys2Proof.Machine Sys2Proof.Claim

/-! ## One waiter settled -/

/-- R248 to R250, R254: the completion that a result posts: of the waiter's request, or of the AWAIT that is held on it. -/
def settleCompletion (r : SlotResult) (s : State) (x : Waiter) : Option Completion :=
  match x.owner with
  | .req rid => (FMap.get? rid s.reqs).bind fun c => (requestOutcome c r).map fun out => ⟨.req rid, out⟩
  | .caller => if (FMap.get? x.wid s.slots).any (·.awaited) then (slotOutcome r).map fun out => ⟨.waiter x.wid, out⟩ else none

/-- R254, R256, R259, R261, R263: the state in which a waiter of a proper state has been settled. -/
def settled (x : Waiter) (r : SlotResult) (s : State) : State :=
  { s with
    waiters := s.waiters.filter (fun y => y.wid ≠ x.wid)
    slots :=
      if x.owner = .caller ∧ (FMap.get? x.wid s.slots).any (·.awaited) = false then FMap.set x.wid ⟨r, false⟩ s.slots
      else FMap.erase x.wid s.slots
    gate := if x.owner = .caller then s.gate else .free
    reqs := match x.owner with | .req rid => FMap.erase rid s.reqs | .caller => s.reqs
    done := s.done ++ (settleCompletion r s x).toList }

/-- R23: only a pending slot has no outcome. -/
theorem exists_slotOutcome {r : SlotResult} (hr : r ≠ .pending) : ∃ out, slotOutcome r = some out := by
  cases r with
  | pending => exact absurd rfl hr
  | fulfilled | timedOut | cancelled | failed => exact ⟨_, rfl⟩

theorem exists_requestOutcome {r : SlotResult} (hr : r ≠ .pending) (c : ReqCtx) : ∃ out, requestOutcome c r = some out := by
  cases r with
  | pending => exact absurd rfl hr
  | fulfilled o => cases hk : c.kind <;> exact ⟨_, by simp only [requestOutcome, hk]; rfl⟩
  | timedOut | cancelled | failed => exact ⟨_, rfl⟩

section Settled

variable {s : State} {x : Waiter} {r : SlotResult}

theorem settle_eq_settled (hinv : s.Inv) (hx : x ∈ s.waiters) (hr : r ≠ .pending) : settle x r s = settled x r s := by
  obtain ⟨hslots, hreqs⟩ := (inv_iff s).1 hinv
  cases howner : x.owner with
  | caller =>
    obtain ⟨a, hslot⟩ := hslots.slot_of_mem hx
    cases a with
    | false =>
      rw [settle_of_unheld howner hslot]
      simp [settled, settleCompletion, howner, hslot]
    | true =>
      obtain ⟨out, hout⟩ := exists_slotOutcome hr
      rw [settle_of_held howner hslot hout]
      simp [settled, settleCompletion, howner, hslot, hout]
  | req rid =>
    obtain ⟨hgate, c, hctx, -, hwid, -⟩ := hreqs.holder_of_owner hx howner
    obtain ⟨out, hout⟩ := exists_requestOutcome hr c
    rw [settle_of_request howner hctx hwid hout, if_pos hgate]
    simp [settled, settleCompletion, howner, hctx, hout]

theorem settled_inv (hinv : s.Inv) (hx : x ∈ s.waiters) (hr : r ≠ .pending) : (settled x r s).Inv := by
  obtain ⟨hslots, hreqs⟩ := (inv_iff s).1 hinv
  rw [inv_iff]
  cases howner : x.owner with
  | caller =>
    have hreqs' := hreqs.dropCaller hslots.rising hx howner
    simp only [settled, howner, true_and, if_true]
    refine ⟨?_, hreqs'⟩
    split
    · exact hslots.latch (hslots.wid_lt hx) hr
    · exact hslots.drop x.wid
  | req rid =>
    simp only [settled, howner, reduceCtorEq, false_and, if_false]
    exact ⟨hslots.drop x.wid, hreqs.dropHolder hx howner⟩

/-- A settled waiter leaves the slots of the others alone. -/
theorem get?_settled_slots (x : Waiter) (r : SlotResult) (s : State) (w : Nat) :
    FMap.get? w (settled x r s).slots =
      if x.wid = w then
        if x.owner = .caller ∧ (FMap.get? w s.slots).any (·.awaited) = false then some ⟨r, false⟩ else none
      else FMap.get? w s.slots := by
  by_cases hwid : x.wid = w
  · subst hwid
    simp only [settled, if_true]
    split
    · exact FMap.get?_set_self ..
    · exact FMap.get?_erase_self ..
  · rw [if_neg hwid, settled]
    dsimp only
    split
    · exact FMap.get?_set_of_ne (Ne.symm hwid) ..
    · exact FMap.get?_erase_of_ne (Ne.symm hwid) ..

theorem get?_settled_reqs (x : Waiter) (r : SlotResult) (s : State) (rid : Nat) :
    FMap.get? rid (settled x r s).reqs = if x.owner = .req rid then none else FMap.get? rid s.reqs := by
  cases howner : x.owner with
  | caller => simp only [settled, howner, reduceCtorEq, if_false]
  | req rid' =>
    simp only [settled, howner, Owner.req.injEq]
    by_cases hrid : rid' = rid
    · rw [if_pos hrid, hrid, FMap.get?_erase_self]
    · rw [if_neg hrid, FMap.get?_erase_of_ne (Ne.symm hrid)]

/-- R22: a waiter settled takes no part in the completion of another one. -/
theorem settleCompletion_settled (hinv : s.Inv) (hx : x ∈ s.waiters) {y : Waiter} (hy : y ∈ s.waiters) (hne : y ≠ x) (q : SlotResult) :
    settleCompletion q (settled x r s) y = settleCompletion q s y := by
  obtain ⟨hslots, hreqs⟩ := (inv_iff s).1 hinv
  have hwid : x.wid ≠ y.wid := fun h => hne (waiter_unique hslots.rising hx hy h).symm
  cases howner : y.owner with
  | caller => simp only [settleCompletion, howner, get?_settled_slots, if_neg hwid]
  | req rid =>
    have hother : x.owner ≠ .req rid := by
      intro hxowner
      obtain ⟨-, c, hctx, -, hxwid, -⟩ := hreqs.holder_of_owner hx hxowner
      obtain ⟨-, c', hctx', -, hywid, -⟩ := hreqs.holder_of_owner hy howner
      rw [hctx, Option.some.injEq] at hctx'
      subst hctx'
      exact hwid (Option.some.inj (hxwid.symm.trans hywid))
    simp only [settleCompletion, howner, get?_settled_reqs, if_neg hother]

end Settled

/-! ## Waiters settled in turn (R261, R263) -/

/-- The waiters of a list settled in its order, each with its own result. -/
def settleAll (r : Waiter → SlotResult) (l : List Waiter) (s : State) : State := l.foldl (fun t x => settle x (r x) t) s

section SettleAll

variable {r : Waiter → SlotResult}

/-- The waiters still to be settled are pending after the first of them is settled. -/
theorem mem_settled_waiters {x y : Waiter} {s : State} (hinv : s.Inv) (hx : x ∈ s.waiters) (hy : y ∈ s.waiters) (hne : y ≠ x)
    (q : SlotResult) : y ∈ (settled x q s).waiters := by
  obtain ⟨hslots, -⟩ := (inv_iff s).1 hinv
  exact mem_filter_wid.2 ⟨hy, fun hwid => hne (waiter_unique hslots.rising hy hx hwid)⟩

theorem settleAll_inv (hr : ∀ x, r x ≠ .pending) {l : List Waiter} {s : State} (hinv : s.Inv) (hmem : ∀ x ∈ l, x ∈ s.waiters)
    (hnodup : l.Nodup) : (settleAll r l s).Inv := by
  induction l generalizing s with
  | nil => exact hinv
  | cons x l ih =>
    obtain ⟨hx, hl⟩ := List.forall_mem_cons.1 hmem
    obtain ⟨hxl, hnodup⟩ := List.nodup_cons.1 hnodup
    have hstep : settleAll r (x :: l) s = settleAll r l (settled x (r x) s) := by
      rw [settleAll, List.foldl_cons, settle_eq_settled hinv hx (hr x), settleAll]
    rw [hstep]
    exact ih (settled_inv hinv hx (hr x))
      (fun y hy => mem_settled_waiters hinv hx (hl y hy) (fun heq => hxl (heq ▸ hy)) (r x)) hnodup

/-- R261, R263: what settling waiters in turn makes of a proper state: the result of each stays in its slot, or goes with its completion. -/
theorem settleAll_eq (hr : ∀ x, r x ≠ .pending) {l : List Waiter} {s : State} (hinv : s.Inv) (hmem : ∀ x ∈ l, x ∈ s.waiters)
    (hnodup : l.Nodup) :
    ∃ slots reqs, settleAll r l s = { s with
        waiters := s.waiters.filter (fun y => y ∉ l)
        done := s.done ++ l.filterMap (fun x => settleCompletion (r x) s x)
        gate := if l.any (·.owner != .caller) then .free else s.gate
        slots := slots
        reqs := reqs } ∧
      (∀ w, FMap.get? w slots =
        match l.find? (·.wid == w) with
        | none => FMap.get? w s.slots
        | some x => if x.owner = .caller ∧ (FMap.get? w s.slots).any (·.awaited) = false then some ⟨r x, false⟩ else none) ∧
      (∀ rid, FMap.get? rid reqs = if l.any (·.owner == .req rid) then none else FMap.get? rid s.reqs) := by
  induction l generalizing s with
  | nil => exact ⟨s.slots, s.reqs, by simp [settleAll], fun w => rfl, fun rid => by simp⟩
  | cons x l ih =>
    obtain ⟨hx, hl⟩ := List.forall_mem_cons.1 hmem
    obtain ⟨hxl, hnodup⟩ := List.nodup_cons.1 hnodup
    have hne : ∀ y ∈ l, y ≠ x := fun y hy heq => hxl (heq ▸ hy)
    have hrising := ((inv_iff s).1 hinv).1.rising
    obtain ⟨slots, reqs, heq, hslots, hreqs⟩ := ih (settled_inv hinv hx (hr x))
      (fun y hy => mem_settled_waiters hinv hx (hl y hy) (hne y hy) (r x)) hnodup
    refine ⟨slots, reqs, ?_, ?_, ?_⟩
    · have hstep : settleAll r (x :: l) s = settleAll r l (settled x (r x) s) := by
        rw [settleAll, List.foldl_cons, settle_eq_settled hinv hx (hr x), settleAll]
      have hwaiters : (settled x (r x) s).waiters.filter (fun y => y ∉ l) = s.waiters.filter (fun y => y ∉ x :: l) := by
        rw [settled, List.filter_filter]
        refine List.filter_congr fun y hy => ?_
        have hsame : y.wid ≠ x.wid ↔ y ≠ x := not_congr ⟨fun h => waiter_unique hrising hy hx h, fun h => h ▸ rfl⟩
        rw [← Bool.decide_and, decide_eq_decide, hsame, List.mem_cons, not_or]
        exact and_comm
      have hdone : (settled x (r x) s).done ++ l.filterMap (fun y => settleCompletion (r y) (settled x (r x) s) y) =
          s.done ++ (x :: l).filterMap (fun y => settleCompletion (r y) s y) := by
        have hlater : l.filterMap (fun y => settleCompletion (r y) (settled x (r x) s) y) =
            l.filterMap (fun y => settleCompletion (r y) s y) :=
          List.filterMap_congr fun y hy => settleCompletion_settled hinv hx (hl y hy) (hne y hy) (r y)
        rw [hlater, settled, List.filterMap_cons]
        cases settleCompletion (r x) s x <;> simp
      have hgate : (if l.any (·.owner != .caller) then Gate.free else (settled x (r x) s).gate) =
          if (x :: l).any (·.owner != .caller) then .free else s.gate := by
        by_cases howner : x.owner = .caller <;> simp [settled, howner]
      rw [hstep, heq, hwaiters, hdone, hgate]
      rfl
    · intro w
      rw [hslots, get?_settled_slots, List.find?_cons]
      by_cases hwid : x.wid = w
      · have hnone : l.find? (·.wid == w) = none := by
          refine List.find?_eq_none.2 fun y hy => ?_
          rw [beq_iff_eq, ← hwid]
          exact fun h => hne y hy (waiter_unique hrising (hl y hy) hx h)
        simp only [hnone, hwid, if_true, beq_self_eq_true]
      · simp only [hwid, if_false, beq_false_of_ne hwid]
    · intro rid
      rw [hreqs, get?_settled_reqs]
      by_cases howner : x.owner = .req rid <;> simp [howner]

end SettleAll

/-! ## TICK (R261) -/

theorem exec_tick (dt : Nat) (s : State) : exec (.tick dt) s = .next (gives .none (tickOp dt s)) := rfl

theorem tickOp_eq (dt : Nat) (s : State) :
    tickOp dt s = settleAll (fun x => .timedOut x.subsystem x.name) (s.waiters.filter (fun x => x.deadline ≤ s.now + dt))
      { s with now := s.now + dt } := rfl

theorem nodup_waiters {s : State} (hinv : s.Inv) : s.waiters.Nodup :=
  List.Nodup.of_map _ (nodup_wids ((inv_iff s).1 hinv).1.rising)

/-- R250, R254, R261: a waiter that expires posts what the claims say. -/
theorem settleCompletion_timedOut (s : State) (x : Waiter) :
    settleCompletion (.timedOut x.subsystem x.name) s x = expiryCompletion s x := by
  cases howner : x.owner with
  | caller => simp only [settleCompletion, expiryCompletion, howner, slotOutcome, Option.map_some]
  | req rid =>
    simp only [settleCompletion, expiryCompletion, howner, requestOutcome, Option.map_some]
    cases FMap.get? rid s.reqs <;> rfl

/-- Settles O44: the waiters that are due are settled in turn. -/
theorem tickExpiresDueWaiters : Obligations.TickExpiresDueWaiters := by
  intro dt s hinv
  have hsub : ∀ x ∈ s.waiters.filter (fun x => x.deadline ≤ s.now + dt), x ∈ s.waiters := fun x hx => List.mem_of_mem_filter hx
  obtain ⟨slots, reqs, heq, hslots, hreqs⟩ := settleAll_eq (r := fun x => .timedOut x.subsystem x.name) (s := { s with now := s.now + dt })
    (fun _ => nofun) hinv hsub ((nodup_waiters hinv).filter _)
  have hwaiters : s.waiters.filter (fun y => y ∉ s.waiters.filter (fun x => x.deadline ≤ s.now + dt)) =
      s.waiters.filter (fun x => s.now + dt < x.deadline) := by
    refine List.filter_congr fun y hy => ?_
    simp [List.mem_filter, hy]
  have hfind : ∀ w, (s.waiters.filter (fun x => x.deadline ≤ s.now + dt)).find? (·.wid == w) =
      s.waiters.find? (fun x => x.wid == w && decide (x.deadline ≤ s.now + dt)) := by
    intro w
    rw [List.find?_filter]
    congr
    funext x
    rw [Bool.decide_and, Bool.decide_eq_true, Bool.decide_eq_true, Bool.and_comm]
  rw [hwaiters, List.any_filter] at heq
  rw [exec_tick, tickOp_eq, heq]
  refine ⟨_, rfl, ?_, ?_, ?_⟩
  · simp only [settleCompletion_timedOut]
    rfl
  · intro w
    have hslot := hslots w
    rw [hfind] at hslot
    exact hslot
  · intro rid
    have hreq := hreqs rid
    rw [List.any_filter] at hreq
    exact hreq

/-! ## The gate's choice (R262) -/

/-- R262: with requests queued one of them is picked, the oldest where that is the order, and at most the counter of free choices moves. -/
theorem pickQueued_of_ne_nil {s : State} (hqueue : s.gateQueue ≠ []) :
    ∃ rid n, pickQueued s = some (rid, { s with choice := n }) ∧ rid ∈ s.gateQueue ∧
      (s.config.gateOrder = .oldest → n = s.choice ∧ s.gateQueue.head? = some rid) := by
  cases hpick : pickQueued s with
  | none =>
    obtain ⟨q, qs, hq⟩ := List.exists_cons_of_ne_nil hqueue
    cases horder : s.config.gateOrder <;> simp [pickQueued, hq, horder] at hpick
  | some picked =>
    obtain ⟨rid, s1⟩ := picked
    obtain ⟨hmem, n, rfl⟩ := pickQueued_mem hpick
    refine ⟨rid, n, rfl, hmem, fun horder => ?_⟩
    obtain ⟨q, qs, hq⟩ := List.exists_cons_of_ne_nil hqueue
    simp only [pickQueued, hq, horder, Option.some.injEq, Prod.mk.injEq] at hpick
    obtain ⟨rfl, hs⟩ := hpick
    exact ⟨(congrArg State.choice hs).symm, by rw [hq, List.head?_cons]⟩

/-- R27: the first of a queue in its canonical form is the oldest handle. -/
theorem le_of_head?_eq {l : List Nat} (hl : NSet.wf l = true) {a : Nat} (ha : l.head? = some a) : ∀ q ∈ l, a ≤ q := by
  obtain ⟨tail, rfl⟩ := List.head?_eq_some_iff.1 ha
  rw [NSet.wf_iff_pairwise, List.pairwise_cons] at hl
  obtain ⟨hlt, -⟩ := hl
  intro q hq
  rcases List.mem_cons.1 hq with rfl | hq
  · exact le_rfl
  · exact (hlt q hq).le

/-! ## GATE_GRANT (R262) -/

theorem exec_gateGrant (s : State) : exec .gateGrant s = .next (grantGate s) := rfl

theorem grantGate_of_disabled {s : State} (h : s.gate ≠ .free ∨ s.gateQueue = []) : grantGate s = s := by
  rcases grantGate_cases s with ⟨-, hstay⟩ | ⟨rid, s1, henabled, -, -⟩
  · exact hstay
  · rw [grantEnabled, Bool.and_eq_true, decide_eq_true_eq, Bool.not_eq_true', List.isEmpty_eq_false_iff] at henabled
    obtain ⟨hfree, hqueue⟩ := henabled
    exact absurd (h.resolve_left (not_not_intro hfree)) hqueue

/-- R262: the request that is admitted leaves the queue and is issued by its path. -/
theorem grantGate_of_pick {s : State} {rid n : Nat} {c : ReqCtx} (hgate : s.gate = .free)
    (hpick : pickQueued s = some (rid, { s with choice := n })) (hctx : FMap.get? rid s.reqs = some c) (hwid : c.wid = none) :
    grantGate s = granted rid c { s with gateQueue := NSet.erase rid s.gateQueue, choice := n } := by
  have hgrant : grantGate s = issue rid { unqueue rid { s with choice := n } with gate := .held rid } := by
    simp only [grantGate, hgate, hpick]
  rw [hgrant, issue_eq_granted (s := unqueue rid { s with choice := n }) hgate hctx hwid]
  rfl

/-- Settles O50: the invariant gives the request that is picked its context, and its path decides how it is issued. -/
theorem gateGrantIssuesHeldRequest : Obligations.GateGrantIssuesHeldRequest := by
  refine ⟨?_, ?_⟩
  · intro s hdisabled
    rw [exec_gateGrant, grantGate_of_disabled hdisabled]
  · intro s hgate hqueue hinv
    obtain ⟨-, hreqs⟩ := (inv_iff s).1 hinv
    obtain ⟨rid, n, hpick, hmem, horder⟩ := pickQueued_of_ne_nil hqueue
    obtain ⟨c, hctx, -, hwid⟩ := hreqs.waitGate_of_queued hmem
    refine ⟨rid, c, n, hmem, hctx, ?_, ?_⟩
    · intro holdest
      obtain ⟨hchoice, hhead⟩ := horder holdest
      exact ⟨hchoice, le_of_head?_eq hreqs.queueWf hhead⟩
    · rw [exec_gateGrant, grantGate_of_pick hgate hpick hctx hwid, nset_erase_eq_filter]
      rfl

/-! ## DISCONNECT (R263) -/

theorem exec_disconnect (s : State) : exec .disconnect s = .next (gives .none (disconnectOp s)) := rfl

/-- R263: with no waiter pending, no request awaits a reply: the gate is free. -/
theorem gate_free_of_no_waiter {s : State} (hinv : s.Inv) (hnone : s.waiters = []) : s.gate = .free := by
  obtain ⟨-, hreqs⟩ := (inv_iff s).1 hinv
  refine hreqs.gated.resolve_right ?_
  rintro ⟨e, he, -, hphase⟩
  rcases hreqs.phased e he with ⟨hwait, -⟩ | ⟨-, -, -, x, hx, -⟩
  · exact absurd (hwait.symm.trans hphase) nofun
  · rw [hnone] at hx
    cases hx

/-- With no waiter and an empty queue there is no request. -/
theorem reqs_nil_of_no_waiter {s : State} (hinv : s.Inv) (hnone : s.waiters = []) (hqueue : s.gateQueue = []) : s.reqs = [] := by
  obtain ⟨-, hreqs⟩ := (inv_iff s).1 hinv
  refine List.eq_nil_iff_forall_not_mem.2 fun e he => ?_
  rcases hreqs.phased e he with ⟨-, hmem, -⟩ | ⟨-, -, -, x, hx, -⟩
  · rw [hqueue] at hmem
    cases hmem
  · rw [hnone] at hx
    cases hx

/-- R263: a held request fails. -/
def failHeld (rid : Nat) (s : State) : State := completeRequest rid (.err .disconnected) (unqueue rid s)

theorem failQueued_of_pick {s s1 : State} {rid : Nat} (h : pickQueued s = some (rid, s1)) (k : Nat) :
    failQueued (k + 1) s = failQueued k (failHeld rid s1) := by
  simp only [failQueued, h, failHeld]

theorem failHeld_eq {s : State} (hinv : s.Inv) {rid : Nat} (hmem : rid ∈ s.gateQueue) :
    failHeld rid s = { s with
      gateQueue := NSet.erase rid s.gateQueue
      reqs := FMap.erase rid s.reqs
      done := s.done ++ [⟨.req rid, .err .disconnected⟩] } := by
  obtain ⟨-, hreqs⟩ := (inv_iff s).1 hinv
  obtain ⟨c, hctx, hwait, hwid⟩ := hreqs.waitGate_of_queued hmem
  have hgate : s.gate ≠ .held rid := by
    intro hheld
    rcases hreqs.gated with hfree | ⟨⟨k, c'⟩, he, hgate, hawait⟩
    · exact absurd (hfree.symm.trans hheld) nofun
    · rw [hheld, Gate.held.injEq] at hgate
      subst hgate
      rw [FMap.get?_of_mem hreqs.wf he, Option.some.injEq] at hctx
      subst hctx
      exact absurd (hwait.symm.trans hawait) nofun
  rw [failHeld, completeRequest_of_some (s := unqueue rid s) hctx, if_neg (show (unqueue rid s).gate ≠ .held rid from hgate), hwid]
  rfl

theorem failHeld_inv {s : State} (hinv : s.Inv) {rid : Nat} (hmem : rid ∈ s.gateQueue) : (failHeld rid s).Inv := by
  obtain ⟨hslots, hreqs⟩ := (inv_iff s).1 hinv
  rw [failHeld_eq hinv hmem, inv_iff]
  exact ⟨hslots, hreqs.dropQueued hmem⟩

/-- R263: once no waiter is left, every held request fails, in the order of the gate's choices. -/
theorem failQueued_eq {k : Nat} {s : State} (hinv : s.Inv) (hnone : s.waiters = []) (hk : s.gateQueue.length = k) :
    ∃ order n, order.Perm (s.gateQueue.map (fun rid => (⟨.req rid, .err .disconnected⟩ : Completion))) ∧
      failQueued k s = { s with gateQueue := [], reqs := [], done := s.done ++ order, choice := n } := by
  induction k generalizing s with
  | zero =>
    have hqueue := List.length_eq_zero_iff.1 hk
    refine ⟨[], s.choice, by rw [hqueue]; exact List.Perm.nil, ?_⟩
    rw [failQueued, List.append_nil, ← hqueue, ← reqs_nil_of_no_waiter hinv hnone hqueue]
  | succ k ih =>
    have hqueue : s.gateQueue ≠ [] := fun h => by rw [h] at hk; cases hk
    obtain ⟨rid, n, hpick, hmem, -⟩ := pickQueued_of_ne_nil hqueue
    have hnodup : s.gateQueue.Nodup := ((NSet.wf_iff_pairwise _).1 ((inv_iff s).1 hinv).2.queueWf).nodup
    have hperm : s.gateQueue.Perm (rid :: NSet.erase rid s.gateQueue) := by
      have herase : NSet.erase rid s.gateQueue = s.gateQueue.erase rid := (hnodup.erase_eq_filter rid).symm
      rw [herase]
      exact List.perm_cons_erase hmem
    have hlength : (NSet.erase rid s.gateQueue).length = k := by
      have hlen := hperm.length_eq
      rw [hk, List.length_cons] at hlen
      omega
    have heq := failHeld_eq (s := { s with choice := n }) hinv hmem
    have hinv' : (failHeld rid { s with choice := n }).Inv := failHeld_inv (s := { s with choice := n }) hinv hmem
    rw [failQueued_of_pick hpick]
    rw [heq] at hinv' ⊢
    obtain ⟨order, m, horder, hrest⟩ := ih hinv' hnone hlength
    refine ⟨⟨.req rid, .err .disconnected⟩ :: order, m, ?_, ?_⟩
    · exact (horder.cons _).trans (hperm.map fun rid => (⟨.req rid, .err .disconnected⟩ : Completion)).symm
    · rw [hrest, List.append_assoc]
      rfl

/-- R254, R263: a waiter that fails posts what the claims say: its request, if it has one, is there. -/
theorem settleCompletion_failed {s : State} (hinv : s.Inv) {x : Waiter} (hx : x ∈ s.waiters) :
    settleCompletion .failed s x = failureCompletion s x := by
  cases howner : x.owner with
  | caller => simp only [settleCompletion, failureCompletion, howner, slotOutcome, Option.map_some]
  | req rid =>
    obtain ⟨-, c, hctx, -⟩ := ((inv_iff s).1 hinv).2.holder_of_owner hx howner
    simp only [settleCompletion, failureCompletion, howner, hctx, requestOutcome, Option.map_some, Option.bind_some]

theorem disconnectOp_of_failing {s : State} (h : s.config.failOnDisconnect = true) :
    disconnectOp s = failQueued (settleAll (fun _ => .failed) s.waiters (emitEvt .disconnected s)).gateQueue.length
      (settleAll (fun _ => .failed) s.waiters (emitEvt .disconnected s)) := by
  simp only [disconnectOp, h, if_true]
  rfl

theorem filter_not_mem_self (l : List Waiter) : l.filter (fun y => y ∉ l) = [] :=
  List.filter_eq_nil_iff.2 fun y hy => by simp [hy]

/-- Settles O45: the waiters are settled in turn, and then the queue is emptied. -/
theorem disconnectReportsAndFails : Obligations.DisconnectReportsAndFails := by
  refine ⟨?_, ?_⟩
  · intro s hmode
    simp only [exec_disconnect, disconnectOp, hmode, Bool.false_eq_true, if_false]
    rfl
  · intro s hmode hinv
    have hinv1 : (emitEvt .disconnected s).Inv := hinv
    have hnodup := nodup_waiters hinv
    obtain ⟨slots, reqs, heq, hslots, -⟩ := settleAll_eq (r := fun _ => .failed) (fun _ => nofun) hinv1 (fun x hx => hx) hnodup
    have hinv2 := settleAll_inv (r := fun _ => .failed) (fun _ => nofun) hinv1 (fun x hx => hx) hnodup
    have hdone : (emitEvt .disconnected s).waiters.filterMap (settleCompletion .failed (emitEvt .disconnected s)) =
        s.waiters.filterMap (failureCompletion s) :=
      List.filterMap_congr fun x hx => settleCompletion_failed hinv hx
    rw [filter_not_mem_self, hdone] at heq
    rw [emitEvt_waiters] at heq hinv2
    rw [heq] at hinv2
    have hfree := gate_free_of_no_waiter hinv2 rfl
    obtain ⟨order, n, hperm, hfail⟩ := failQueued_eq hinv2 rfl rfl
    rw [exec_disconnect, disconnectOp_of_failing hmode, heq, hfail]
    dsimp only at hfree
    refine ⟨_, order, rfl, hperm, ?_, hslots⟩
    dsimp only
    rw [hfree]
    rfl

end Sys2Proof.Proofs
end

section
/-! PROOFS. What a step can do (spec/10_state.md, spec/43_request_engine.md), said once: it takes its input, and then either writes nothing but outcomes,
settled waiters and completions, or opens something new, which is a waiter, a request, or the gate for a held request. That a step keeps the invariant
of the Request Engine follows from this. -/

namespace Sys2Proof.Proofs

open Sys2Proof Sys2Proof.Machine Sys2Proof.Claim

/-! ## Writes outside the Request Engine's state -/

/-- The two states differ in the accumulator, the time, the events, the returned outcomes, the inputs and the drawn choices at most, and an accumulator
within its capacity stays so. -/
structure Quiet (s t : State) : Prop where
  waiters : t.waiters = s.waiters
  slots : t.slots = s.slots
  nextWid : t.nextWid = s.nextWid
  nextRid : t.nextRid = s.nextRid
  gate : t.gate = s.gate
  gateQueue : t.gateQueue = s.gateQueue
  reqs : t.reqs = s.reqs
  config : t.config = s.config
  cmdTable : t.cmdTable = s.cmdTable
  handlers : t.handlers = s.handlers
  tx : t.tx = s.tx
  done : t.done = s.done
  evt : s.evt <+: t.evt
  ret : s.ret <+: t.ret
  room : (∀ c ∈ s.config.rxbufCap, s.rxbuf.length ≤ c) → ∀ c ∈ s.config.rxbufCap, t.rxbuf.length ≤ c

theorem quiet_respond (r : Response) (s : State) : Quiet s (respond r s) :=
  ⟨rfl, rfl, rfl, rfl, rfl, rfl, rfl, rfl, rfl, rfl, rfl, rfl, List.prefix_rfl, List.prefix_append .., id⟩

theorem quiet_emitEvt (e : Event) (s : State) : Quiet s (emitEvt e s) :=
  ⟨rfl, rfl, rfl, rfl, rfl, rfl, rfl, rfl, rfl, rfl, rfl, rfl, List.prefix_append .., List.prefix_rfl, id⟩

theorem quiet_rxbuf {s : State} {buf : List Byte}
    (hroom : (∀ c ∈ s.config.rxbufCap, s.rxbuf.length ≤ c) → ∀ c ∈ s.config.rxbufCap, buf.length ≤ c) : Quiet s { s with rxbuf := buf } :=
  ⟨rfl, rfl, rfl, rfl, rfl, rfl, rfl, rfl, rfl, rfl, rfl, rfl, List.prefix_rfl, List.prefix_rfl, hroom⟩

/-- The time, the inputs and the drawn choices belong to no claim about the Request Engine. -/
theorem quiet_model (now : Nat) (port : List Input) (choice : Nat) (s : State) :
    Quiet s { s with now := now, port := port, choice := choice } :=
  ⟨rfl, rfl, rfl, rfl, rfl, rfl, rfl, rfl, rfl, rfl, rfl, rfl, List.prefix_rfl, List.prefix_rfl, id⟩

/-! ## What a step is made of -/

/-- R254 to R263: what the engine does apart from opening something new. -/
inductive Act : State → State → Prop
  | quiet {s t : State} (h : Quiet s t) : Act s t
  | settle {s : State} {r : Waiter → SlotResult} {l : List Waiter} (hr : ∀ x, r x ≠ .pending) (hl : l.Sublist s.waiters) :
      Act s (settleAll r l s)
  | hold {s : State} {w : Nat} (hslot : FMap.get? w s.slots = some ⟨.pending, false⟩) (hfree : requestOwned w s = false) :
      Act s (setSlot w ⟨.pending, true⟩ s)
  | consume {s : State} {w : Nat} {sl : Slot} (hslot : FMap.get? w s.slots = some sl) (hsettled : sl.result ≠ .pending) :
      Act s (deleteSlot w s)
  | cancel (rid : Nat) (s : State) : Act s (cancelRequestOp rid s)
  | failHeld {s : State} {rid : Nat} (hmem : rid ∈ s.gateQueue) : Act s (failHeld rid s)

/-- Several of them in a row. -/
abbrev Acts : State → State → Prop := Relation.ReflTransGen Act

theorem Quiet.acts {s t : State} (h : Quiet s t) : Acts s t := .single (.quiet h)

theorem Acts.thenQuiet {s t u : State} (h : Acts s t) (hq : Quiet t u) : Acts s u := h.tail (.quiet hq)

/-- What every act keeps, acts in a row keep. -/
theorem Acts.keep {P : State → Prop} (hP : ∀ s t, Act s t → P s → P t) {s t : State} (h : Acts s t) (hs : P s) : P t := by
  induction h with
  | refl => exact hs
  | tail _ hact ih => exact hP _ _ hact ih

/-- R241, R252, R262: what the engine opens: a caller's waiter, a request, or the gate for a held request. -/
inductive Opens : State → State → Prop
  | waiter {s s' : State} {t : CmdType} {u : Subsystem} {n : String} {m : Fields} {d w : Nat} (r : Response)
      (h : register t u n m d .caller s = .ok (w, s')) : Opens s (respond r s')
  | request {u : Nat} {n : String} {p : Fields} {s : State} {o : CommandObject} {bytes : List Byte} {k : ReqKind} (e : List Int)
      (h : buildRequest s.cmdTable s.config u n p = .ok (o, bytes, k)) : Opens s (enterGate s.nextRid (opened o bytes k e s))
  | grant (s : State) : Opens s (grantGate s)

/-! ## The receive path (R103 to R115, R257) -/

theorem acts_settle {s : State} {x : Waiter} {r : SlotResult} (hx : x ∈ s.waiters) (hr : r ≠ .pending) : Acts s (settle x r s) :=
  .single (.settle (r := fun _ => r) (l := [x]) (fun _ => hr) (List.singleton_sublist.2 hx))

theorem acts_frameReceived (f : Frame) (s : State) : Acts s (frameReceived f s) := by
  cases hdecode : fromFrame s.cmdTable s.config f with
  | error e =>
    rw [frameReceived_of_error hdecode]
    exact (quiet_emitEvt _ s).acts
  | ok o =>
    simp only [frameReceived, hdecode]
    split
    next x hfind => exact acts_settle (List.mem_of_find?_eq_some hfind) nofun
    next =>
      unfold dispatch
      split
      · exact (quiet_emitEvt _ s).acts
      · exact .refl

theorem acts_rxDeliver (f : List Byte) (s : State) : Acts s (rxDeliver f s) := by
  dsimp only [rxDeliver]
  split
  · exact acts_frameReceived _ s
  · exact (quiet_emitEvt _ s).acts

/-- Bytes that the accumulator loses leave it within its capacity. -/
theorem quiet_shorter {s : State} {buf : List Byte} (hle : buf.length ≤ s.rxbuf.length) : Quiet s { s with rxbuf := buf } :=
  quiet_rxbuf fun hroom c hc => hle.trans (hroom c hc)

theorem acts_rxPasses (k : Nat) (s : State) : Acts s (rxPasses k s) := by
  induction k generalizing s with
  | zero => exact .refl
  | succ k ih =>
    cases hscan : rxScan s.config s.rxbuf with
    | wait keep =>
      rw [rxPasses_of_wait hscan]
      exact (quiet_shorter (rxScan_wait hscan).length_le).acts
    | frame f rest =>
      have hdeliver : Acts s (rxDeliver f { s with rxbuf := rest }) :=
        .trans (quiet_shorter (length_rest_of_rxScan_frame hscan).le).acts (acts_rxDeliver f _)
      cases hmode : s.config.drainMode with
      | single =>
        rw [rxPasses_of_frame_single hscan hmode]
        exact hdeliver
      | loop =>
        rw [rxPasses_of_frame_loop hscan hmode]
        exact hdeliver.trans (ih _)

theorem acts_receiveChunk (chunk : List Byte) (s : State) : Acts s (receiveChunk chunk s) := by
  by_cases hfits : chunkFits s chunk
  · rw [receiveChunk_of_fits hfits]
    refine .trans (quiet_rxbuf fun _ c hc => ?_).acts (acts_rxPasses _ _)
    rw [List.length_append]
    exact hfits c hc
  · rw [receiveChunk_of_overflow hfits]
    exact (quiet_emitEvt _ s).acts

/-! ## The operations that act -/

theorem acts_awaitOp (w : Nat) (s : State) : Acts s (awaitOp w s) := by
  cases hslot : FMap.get? w s.slots with
  | none =>
    rw [awaitOp_of_refused (.inl hslot)]
    exact (quiet_respond _ s).acts
  | some sl =>
    by_cases hrefused : requestOwned w s = true ∨ sl.awaited = true
    · rw [awaitOp_of_refused (.inr (by simpa [hslot] using hrefused))]
      exact (quiet_respond _ s).acts
    · rw [not_or, Bool.not_eq_true, Bool.not_eq_true] at hrefused
      obtain ⟨hfree, hunheld⟩ := hrefused
      obtain ⟨r, a⟩ := sl
      obtain rfl : a = false := hunheld
      cases hout : slotOutcome r with
      | none =>
        have hpending : r = .pending := by
          by_contra hr
          obtain ⟨out, hsome⟩ := exists_slotOutcome hr
          rw [hout] at hsome
          cases hsome
        subst hpending
        rw [awaitOp_of_pending hslot hfree]
        exact .thenQuiet (.single (.hold hslot hfree)) (quiet_respond (.hold w) _)
      | some out =>
        have hsettled : r ≠ .pending := fun hr => by
          rw [hr] at hout
          cases hout
        rw [awaitOp_of_settled hslot hfree hout]
        exact .thenQuiet (.single (.consume hslot hsettled)) (quiet_respond (outcomeResponse out) _)

theorem acts_cancelWaiterOp (w : Nat) (s : State) : Acts s (cancelWaiterOp w s) := by
  unfold cancelWaiterOp
  split
  · exact (quiet_respond _ s).acts
  next x hfind =>
    split
    · exact (quiet_respond _ s).acts
    · have hsettle : Acts s (settle x .cancelled s) := acts_settle (List.mem_of_find?_eq_some hfind) nofun
      exact hsettle.thenQuiet (quiet_respond (.ok .none) _)

theorem acts_tickOp (dt : Nat) (s : State) : Acts s (tickOp dt s) := by
  rw [tickOp_eq]
  exact .trans (quiet_model (s.now + dt) s.port s.choice s).acts (.single (.settle (fun _ => nofun) List.filter_sublist))

theorem acts_failQueued (k : Nat) (s : State) : Acts s (failQueued k s) := by
  induction k generalizing s with
  | zero => exact .refl
  | succ k ih =>
    cases hpick : pickQueued s with
    | none =>
      simp only [failQueued, hpick]
      exact .refl
    | some picked =>
      obtain ⟨rid, s1⟩ := picked
      obtain ⟨hmem, n, rfl⟩ := pickQueued_mem hpick
      rw [failQueued_of_pick hpick]
      have hfail : Act { s with choice := n } (failHeld rid { s with choice := n }) := .failHeld hmem
      exact .trans (quiet_model s.now s.port n s).acts (.trans (.single hfail) (ih _))

theorem acts_disconnectOp (s : State) : Acts s (disconnectOp s) := by
  cases hmode : s.config.failOnDisconnect with
  | false =>
    simp only [disconnectOp, hmode, Bool.false_eq_true, if_false]
    exact (quiet_emitEvt _ s).acts
  | true =>
    rw [disconnectOp_of_failing hmode]
    have hall : Act (emitEvt .disconnected s) (settleAll (fun _ => .failed) s.waiters (emitEvt .disconnected s)) :=
      .settle (fun _ => nofun) (List.Sublist.refl _)
    exact .trans (quiet_emitEvt _ s).acts (.trans (.single hall) (acts_failQueued _ _))

theorem requestOp_reaches (u : Nat) (n : String) (p : Fields) (e : List Int) (s : State) :
    Acts s (requestOp u n p e s) ∨ Opens s (requestOp u n p e s) := by
  cases hbuild : buildRequest s.cmdTable s.config u n p with
  | error x =>
    simp only [requestOp, hbuild]
    exact .inl (quiet_respond _ s).acts
  | ok built =>
    obtain ⟨o, bytes, k⟩ := built
    rw [requestOp_of_build hbuild]
    exact .inr (.request e hbuild)

theorem createWaiterOp_reaches (c u : Nat) (n : String) (m : Fields) (timeout : Option Nat) (s : State) :
    Acts s (createWaiterOp c u n m timeout s) ∨ Opens s (createWaiterOp c u n m timeout s) := by
  unfold createWaiterOp
  split
  · exact .inl (quiet_respond _ s).acts
  · split
    · exact .inl (quiet_respond _ s).acts
    next hreg => exact .inr (.waiter _ hreg)

theorem checked_reaches (op : Byte) (ok : Bool) {f : State → State} {s : State} (h : Acts s (f s) ∨ Opens s (f s)) :
    Acts s (checked op ok f s) ∨ Opens s (checked op ok f s) := by
  rcases checked_cases op ok f s with ⟨-, heq⟩ | ⟨-, heq⟩
  · rw [heq]
    exact h
  · rw [heq]
    exact .inl (quiet_respond _ s).acts

/-! ## Every instruction, and every step -/

/-- Whatever the instruction, there is a next state, which acts lead to or which opens something. -/
theorem exec_reaches (i : Instr) (s : State) : ∃ t, exec i s = .next t ∧ (Acts s t ∨ Opens s t) := by
  by_cases hpure : pureOperation i = true
  · obtain ⟨r, hexec, -⟩ := exec_answerAlike_of_pure hpure (rfl : s.config = s.config) rfl
    exact ⟨_, hexec, .inl (quiet_respond r s).acts⟩
  · cases i with
    | rxPush | framePoll | frameSreq | frameAreq | frameSrsp | frameReservedType =>
      exact ⟨_, rfl, .inl ((acts_receiveChunk _ s).thenQuiet (quiet_respond (.ok .none) _))⟩
    | request => exact ⟨_, rfl, checked_reaches _ _ (requestOp_reaches ..)⟩
    | createResponseWaiter => exact ⟨_, rfl, checked_reaches _ _ (createWaiterOp_reaches ..)⟩
    | await w => exact ⟨_, rfl, .inl (acts_awaitOp w s)⟩
    | cancelRequest rid => exact ⟨_, rfl, .inl (.thenQuiet (.single (.cancel rid s)) (quiet_respond (.ok .none) _))⟩
    | cancelWaiter w => exact ⟨_, rfl, .inl (acts_cancelWaiterOp w s)⟩
    | tick dt => exact ⟨_, rfl, .inl ((acts_tickOp dt s).thenQuiet (quiet_respond (.ok .none) _))⟩
    | disconnect => exact ⟨_, rfl, .inl ((acts_disconnectOp s).thenQuiet (quiet_respond (.ok .none) _))⟩
    | frameReceived f => exact ⟨_, rfl, checked_reaches _ _ (.inl (acts_frameReceived f s))⟩
    | gateGrant => exact ⟨_, rfl, .inr (.grant s)⟩
    | _ => exact absurd rfl hpure

/-- R50: a step takes its input, and then acts or opens something. -/
theorem step_reaches (s : State) : ∃ t, step s = .next t ∧ ∃ s1, Quiet s s1 ∧ (Acts s1 t ∨ Opens s1 t) := by
  unfold step
  split
  · have hidle : Quiet s s := quiet_model s.now s.port s.choice s
    split
    · exact ⟨_, rfl, s, hidle, .inr (.grant s)⟩
    · exact ⟨s, rfl, s, hidle, .inl .refl⟩
  next i rest hport =>
    have htake : Quiet s (s.take rest) := quiet_model s.now rest s.choice s
    split
    next ins hdecode =>
      obtain ⟨t, hexec, hreach⟩ := exec_reaches ins (s.take rest)
      exact ⟨t, hexec, s.take rest, htake, hreach⟩
    next e hdecode => exact ⟨_, rfl, s.take rest, htake, .inl (quiet_respond _ _).acts⟩

/-- The next state of a step, taken apart. -/
theorem reaches_of_step {s t : State} (h : step s = .next t) : ∃ s1, Quiet s s1 ∧ (Acts s1 t ∨ Opens s1 t) := by
  obtain ⟨t', hstep, hreach⟩ := step_reaches s
  rw [h, Host.Outcome.next.injEq] at hstep
  exact hstep ▸ hreach

/-! ## The invariant of the Request Engine -/

theorem Quiet.inv {s t : State} (h : Quiet s t) (hinv : s.Inv) : t.Inv := by
  rw [inv_iff] at *
  rw [h.waiters, h.slots, h.nextWid, h.gate, h.gateQueue, h.reqs, h.nextRid]
  exact hinv

/-- R255: a request that is cancelled was queued, and leaves the queue, or held the gate, and goes with its waiter. -/
theorem cancelRequestOp_inv (rid : Nat) {s : State} (hinv : s.Inv) : (cancelRequestOp rid s).Inv := by
  obtain ⟨hslots, hreqs⟩ := (inv_iff s).1 hinv
  cases hctx : FMap.get? rid s.reqs with
  | none =>
    rw [cancelRequestOp_of_none hctx]
    exact hinv
  | some c =>
    rcases hreqs.phased _ (FMap.mem_of_get? hctx) with ⟨hwait, hmem, hwid⟩ | ⟨hawait, hgate, -, x, hx, hwid, howner⟩
    · have hcancel := hreqs.dropQueued hmem
      have hgate : (unqueue rid s).gate ≠ .held rid := by
        intro hheld
        rcases hreqs.gated with hfree | ⟨e, he, hgate, hphase⟩
        · exact absurd (hfree.symm.trans hheld) nofun
        · have hkey : e.1 = rid := by
            rw [show s.gate = .held rid from hheld, Gate.held.injEq] at hgate
            exact hgate.symm
          rw [entry_unique hreqs.wf he (FMap.mem_of_get? hctx) hkey] at hphase
          exact absurd (hwait.symm.trans hphase) nofun
      rw [cancelRequestOp_of_waitGate hctx hwait, completeRequest_of_some (s := unqueue rid s) hctx, if_neg hgate, hwid, inv_iff]
      exact ⟨hslots, hcancel⟩
    · rw [cancelRequestOp_of_awaitingReply hctx hawait hwid, completeRequest_of_some (s := removeWaiter x.wid s) hctx,
        if_pos (show (removeWaiter x.wid s).gate = .held rid from hgate), hwid, removeWaiter_eq, inv_iff]
      exact ⟨hslots.drop x.wid, hreqs.dropHolder hx howner⟩

theorem Act.inv {s t : State} (h : Act s t) (hinv : s.Inv) : t.Inv := by
  obtain ⟨hslots, hreqs⟩ := (inv_iff s).1 hinv
  cases h with
  | quiet h => exact h.inv hinv
  | settle hr hl => exact settleAll_inv hr hinv hl.subset ((nodup_waiters hinv).sublist hl)
  | hold hslot hfree =>
    obtain ⟨x, hx, rfl⟩ := (hslots.pending _ (FMap.mem_of_get? hslot)).1 rfl
    have howner : x.owner = .caller := by
      by_contra hne
      exact Bool.false_ne_true (hfree.symm.trans ((requestOwned_iff _ s).2 ⟨x, hx, rfl, hne⟩))
    exact (inv_iff _).2 ⟨hslots.hold hx howner, hreqs⟩
  | consume hslot hsettled => exact (inv_iff _).2 ⟨hslots.consume hslot hsettled, hreqs⟩
  | cancel rid => exact cancelRequestOp_inv rid hinv
  | failHeld hmem => exact failHeld_inv hinv hmem

/-- R242: whatever becomes of a queued request that takes the free gate, the state is proper. -/
theorem granted_inv {s : State} (hinv : s.Inv) (hgate : s.gate = .free) {rid : Nat} {c c' : ReqCtx} (hmem : rid ∈ s.gateQueue) :
    (granted rid c' { s with gateQueue := NSet.erase rid s.gateQueue, reqs := FMap.set rid c s.reqs }).Inv := by
  obtain ⟨hslots, hreqs⟩ := (inv_iff s).1 hinv
  rcases granted_cases rid c' { s with gateQueue := NSet.erase rid s.gateQueue, reqs := FMap.set rid c s.reqs } with
    ⟨t, u, n, d, hkind, -, heq⟩ | ⟨tx, out, -, heq⟩
  · rw [heq, issued, inv_iff, FMap.set_set_self]
    refine ⟨hslots.register rfl, ?_⟩
    rw [hgate] at hreqs
    exact hreqs.takeGate (x := ⟨s.nextWid, t, u, n, .nil, s.now + d, .req rid⟩) hmem hkind rfl
  · rw [heq, FMap.erase_set_self, inv_iff]
    exact ⟨hslots, hreqs.dropQueued hmem⟩

/-- A set loses a number that was just put into it. -/
theorem erase_insert_of_fresh {k : Nat} {l : List Nat} (h : ∀ a ∈ l, a < k) : NSet.erase k (NSet.insert k l) = l := by
  induction l with
  | nil => simp [NSet.insert, NSet.erase]
  | cons a l ih =>
    obtain ⟨ha, hl⟩ := List.forall_mem_cons.1 h
    have hcons : NSet.insert k (a :: l) = a :: NSet.insert k l := by
      rw [NSet.insert, if_neg (by omega), if_neg (by omega)]
    have hrest := ih hl
    rw [NSet.erase] at hrest
    rw [hcons, NSet.erase, List.filter_cons_of_pos (by simpa using ha.ne), hrest]

/-- A new request that takes the free gate is one that was queued first and admitted then. -/
theorem enterGate_opened_inv {s : State} (hinv : s.Inv) (o : CommandObject) (bytes : List Byte) (k : ReqKind) (e : List Int) :
    (enterGate s.nextRid (opened o bytes k e s)).Inv := by
  obtain ⟨hslots, hreqs⟩ := (inv_iff s).1 hinv
  have hqueued : ({ gives (.rid s.nextRid) s with
      nextRid := s.nextRid + 1
      gateQueue := NSet.insert s.nextRid s.gateQueue
      reqs := FMap.set s.nextRid ⟨.waitGate, o, bytes, k, e, none, timeoutFor s.config o k⟩ s.reqs } : State).Inv :=
    (inv_iff _).2 ⟨hslots, hreqs.enqueue rfl rfl⟩
  cases hgate : s.gate with
  | held h =>
    rw [enterGate_opened_of_held hgate]
    exact hqueued
  | free =>
    have hadmitted := granted_inv (c := freshCtx s.config o bytes k e) (c' := freshCtx s.config o bytes k e) hqueued hgate
      ((NSet.mem_insert s.nextRid s.nextRid s.gateQueue).2 (.inl rfl))
    simp only [FMap.set_set_self, erase_insert_of_fresh fun a ha => hreqs.queue_lt ha] at hadmitted
    rw [enterGate_of_free (s := opened o bytes k e s) hgate (get?_opened ..) rfl]
    exact hadmitted

theorem set_of_get? {α : Type} {k : Nat} {v : α} {m : List (Nat × α)} (hm : FMap.wf m = true) (h : FMap.get? k m = some v) :
    FMap.set k v m = m := by
  rw [FMap.wf, NSet.wf_iff_pairwise] at hm
  induction m with
  | nil => cases h
  | cons e m ih =>
    obtain ⟨k', v'⟩ := e
    obtain ⟨hlt, hm⟩ := List.pairwise_cons.1 hm
    by_cases hk : k = k'
    · subst hk
      rw [FMap.get?, if_pos rfl, Option.some.injEq] at h
      rw [FMap.set, if_neg (lt_irrefl k), if_pos rfl, h]
    · rw [FMap.get?, if_neg hk] at h
      have hless : k' < k := hlt k (List.mem_map.2 ⟨(k, v), FMap.mem_of_get? h, rfl⟩)
      rw [FMap.set, if_neg (by omega), if_neg hk, ih hm h]

theorem grantGate_inv {s : State} (hinv : s.Inv) : (grantGate s).Inv := by
  by_cases hdisabled : s.gate ≠ .free ∨ s.gateQueue = []
  · rw [grantGate_of_disabled hdisabled]
    exact hinv
  · rw [not_or, not_not] at hdisabled
    obtain ⟨hgate, hqueue⟩ := hdisabled
    obtain ⟨-, hreqs⟩ := (inv_iff s).1 hinv
    obtain ⟨rid, n, hpick, hmem, -⟩ := pickQueued_of_ne_nil hqueue
    obtain ⟨c, hctx, -, hwid⟩ := hreqs.waitGate_of_queued hmem
    have hadmitted := granted_inv (s := { s with choice := n }) (c := c) (c' := c) hinv hgate hmem
    rw [set_of_get? hreqs.wf hctx] at hadmitted
    rw [grantGate_of_pick hgate hpick hctx hwid]
    exact hadmitted

theorem Opens.inv {s t : State} (h : Opens s t) (hinv : s.Inv) : t.Inv := by
  cases h with
  | waiter r hreg =>
    obtain ⟨hslots, hreqs⟩ := (inv_iff s).1 hinv
    obtain ⟨-, -, rfl⟩ := register_ok hreg
    exact (inv_iff _).2 ⟨hslots.register rfl, hreqs.addCaller rfl⟩
  | request e => exact enterGate_opened_inv hinv _ _ _ e
  | grant => exact grantGate_inv hinv

/-- Settles O53: each thing that a step is made of keeps the invariant. -/
theorem stepKeepsInvariant : Obligations.StepKeepsInvariant := by
  intro s t hinv hstep
  obtain ⟨s1, hquiet, hacts | hopens⟩ := reaches_of_step hstep
  · exact hacts.keep (fun _ _ h => h.inv) (hquiet.inv hinv)
  · exact hopens.inv (hquiet.inv hinv)

end Sys2Proof.Proofs
end

section
/-! PROOFS. What every step keeps besides the invariant (spec/10_state.md): whole frames on TX and in the requests, one completion per request, the
capacities, the construction parameters, and outputs, pending set and counters that only move as they may. These hold in every state, proper or not, so
they are proved of smaller writes: one that leaves the requests alone, and a request's completion. -/

namespace Sys2Proof.Proofs

open Sys2Proof Sys2Proof.Machine Sys2Proof.Claim

/-! ## Writes that open nothing -/

/-- Nothing is opened and no frame is sent: waiters may go, and events, completions and outcomes may be added. -/
structure Calm (s t : State) : Prop where
  config : t.config = s.config
  cmdTable : t.cmdTable = s.cmdTable
  handlers : t.handlers = s.handlers
  tx : t.tx = s.tx
  nextWid : t.nextWid = s.nextWid
  waiters : t.waiters.Sublist s.waiters
  evt : s.evt <+: t.evt
  done : s.done <+: t.done
  ret : s.ret <+: t.ret
  room : (∀ c ∈ s.config.rxbufCap, s.rxbuf.length ≤ c) → ∀ c ∈ s.config.rxbufCap, t.rxbuf.length ≤ c

theorem Calm.refl (s : State) : Calm s s :=
  ⟨rfl, rfl, rfl, rfl, rfl, List.Sublist.refl _, List.prefix_rfl, List.prefix_rfl, List.prefix_rfl, id⟩

theorem Calm.trans {s t u : State} (h : Calm s t) (h' : Calm t u) : Calm s u where
  config := h'.config.trans h.config
  cmdTable := h'.cmdTable.trans h.cmdTable
  handlers := h'.handlers.trans h.handlers
  tx := h'.tx.trans h.tx
  nextWid := h'.nextWid.trans h.nextWid
  waiters := h'.waiters.trans h.waiters
  evt := h.evt.trans h'.evt
  done := h.done.trans h'.done
  ret := h.ret.trans h'.ret
  room hroom := by
    have hroom' := h'.room
    rw [h.config] at hroom'
    exact hroom' (h.room hroom)

theorem Quiet.calm {s t : State} (h : Quiet s t) : Calm s t where
  config := h.config
  cmdTable := h.cmdTable
  handlers := h.handlers
  tx := h.tx
  nextWid := h.nextWid
  waiters := by rw [h.waiters]
  evt := h.evt
  done := by rw [h.done]
  ret := h.ret
  room := h.room

/-- A completion posted, or none; slots, waiters, the gate and its queue written. -/
theorem calm_of_engine {s : State} {waiters : List Waiter} {done : List Completion} (slots : List (Nat × Slot)) (gate : Gate)
    (queue : List Nat) (reqs : List (Nat × ReqCtx)) (hwaiters : waiters.Sublist s.waiters) (hdone : s.done <+: done) :
    Calm s { s with waiters := waiters, slots := slots, gate := gate, gateQueue := queue, reqs := reqs, done := done } :=
  ⟨rfl, rfl, rfl, rfl, rfl, hwaiters, List.prefix_rfl, hdone, List.prefix_rfl, id⟩

theorem calm_completeRequest (rid : Nat) (out : DoneOutcome) (s : State) : Calm s (completeRequest rid out s) := by
  cases hctx : FMap.get? rid s.reqs with
  | none =>
    rw [completeRequest_of_none hctx]
    exact .refl s
  | some c =>
    rw [completeRequest_of_some hctx]
    exact calm_of_engine _ _ _ _ (List.Sublist.refl _) (List.prefix_append ..)

/-- The small writes that an act is made of. -/
inductive Write : State → State → Prop
  | plain {s t : State} (hcalm : Calm s t) (hreqs : t.reqs = s.reqs) (hrid : t.nextRid = s.nextRid)
      (hdone : t.done = s.done ∨ ∃ w out, t.done = s.done ++ [⟨.waiter w, out⟩]) : Write s t
  | complete (rid : Nat) (out : DoneOutcome) (s : State) : Write s (completeRequest rid out s)

abbrev Writes : State → State → Prop := Relation.ReflTransGen Write

theorem Writes.keep {P : State → Prop} (hP : ∀ s t, Write s t → P s → P t) {s t : State} (h : Writes s t) (hs : P s) : P t := by
  induction h with
  | refl => exact hs
  | tail _ hwrite ih => exact hP _ _ hwrite ih

theorem Write.calm {s t : State} (h : Write s t) : Calm s t := by
  cases h with
  | plain hcalm => exact hcalm
  | complete rid out => exact calm_completeRequest rid out s

theorem Writes.calm {s t : State} (h : Writes s t) : Calm s t :=
  h.keep (P := Calm s) (fun _ _ hwrite hcalm => hcalm.trans hwrite.calm) (.refl s)

theorem Write.nextRid {s t : State} (h : Write s t) : t.nextRid = s.nextRid := by
  cases h with
  | plain _ _ hrid => exact hrid
  | complete rid out => exact completeRequest_nextRid rid out s

theorem Writes.nextRid {s t : State} (h : Writes s t) : t.nextRid = s.nextRid :=
  h.keep (P := fun u => u.nextRid = s.nextRid) (fun _ _ hwrite hrid => hwrite.nextRid.trans hrid) rfl

/-- A write of slots, waiters, the gate and its queue. -/
theorem write_engine {s : State} {waiters : List Waiter} (slots : List (Nat × Slot)) (gate : Gate) (queue : List Nat)
    (hwaiters : waiters.Sublist s.waiters) : Write s { s with waiters := waiters, slots := slots, gate := gate, gateQueue := queue } :=
  .plain (calm_of_engine slots gate queue s.reqs hwaiters List.prefix_rfl) rfl rfl (.inl rfl)

theorem write_latch (w : Nat) (r : SlotResult) (s : State) : Write s (latch w r s) := by
  obtain ⟨a, heq⟩ := exists_latch_eq w r s
  rw [heq]
  exact write_engine _ _ _ (List.Sublist.refl _)

theorem write_completeAwait (w : Nat) (s : State) : Write s (completeAwait w s) := by
  rcases completeAwait_cases w s with heq | ⟨sl, out, -, -, -, heq⟩
  · rw [heq]
    exact write_engine _ _ _ (List.Sublist.refl _)
  · rw [heq]
    exact .plain (calm_of_engine _ s.gate s.gateQueue s.reqs (List.Sublist.refl _) (List.prefix_append ..)) rfl rfl (.inr ⟨w, out, rfl⟩)

theorem writes_settle (x : Waiter) (r : SlotResult) (s : State) : Writes s (settle x r s) := by
  have hlatch : Writes s (latch x.wid r (removeWaiter x.wid s)) :=
    .tail (.single (write_engine s.slots s.gate s.gateQueue List.filter_sublist)) (write_latch x.wid r _)
  rcases settle_cases x r s with ⟨-, heq⟩ | ⟨rid, -, heq⟩ | ⟨rid, c, out, -, -, -, heq⟩
  · rw [heq]
    exact hlatch.tail (write_completeAwait x.wid _)
  · rw [heq]
    exact hlatch
  · rw [heq]
    exact hlatch.tail (.complete rid out _)

theorem writes_settleAll (r : Waiter → SlotResult) (l : List Waiter) (s : State) : Writes s (settleAll r l s) := by
  induction l generalizing s with
  | nil => exact .refl
  | cons x l ih => exact (writes_settle x (r x) s).trans (ih _)

/-- R255: a cancellation takes a request out of the queue or its waiter out of the pending set, at most, and completes it. -/
theorem exists_cancelRequestOp_eq (rid : Nat) (s : State) : ∃ waiters queue, waiters.Sublist s.waiters ∧
    cancelRequestOp rid s = completeRequest rid (.err .cancelled) { s with waiters := waiters, gateQueue := queue } := by
  cases hctx : FMap.get? rid s.reqs with
  | none => exact ⟨s.waiters, s.gateQueue, List.Sublist.refl _, (cancelRequestOp_of_none hctx).trans (completeRequest_of_none hctx _).symm⟩
  | some c =>
    by_cases hwait : c.phase = .waitGate
    · rw [cancelRequestOp_of_waitGate hctx hwait]
      exact ⟨s.waiters, _, List.Sublist.refl _, rfl⟩
    by_cases hawait : c.phase = .awaitingReply
    · cases hwid : c.wid with
      | none =>
        refine ⟨s.waiters, s.gateQueue, List.Sublist.refl _, ?_⟩
        simp only [cancelRequestOp, hctx, hawait, hwid, reduceCtorEq, if_true, if_false]
      | some w =>
        rw [cancelRequestOp_of_awaitingReply hctx hawait hwid]
        exact ⟨_, s.gateQueue, List.filter_sublist, rfl⟩
    · refine ⟨s.waiters, s.gateQueue, List.Sublist.refl _, ?_⟩
      simp only [cancelRequestOp, hctx, hwait, hawait, if_false]

theorem Act.writes {s t : State} (h : Act s t) : Writes s t := by
  cases h with
  | quiet h => exact .single (.plain h.calm h.reqs h.nextRid (.inl h.done))
  | settle => exact writes_settleAll ..
  | hold | consume => exact .single (write_engine _ s.gate s.gateQueue (List.Sublist.refl _))
  | cancel rid =>
    obtain ⟨waiters, queue, hwaiters, heq⟩ := exists_cancelRequestOp_eq rid s
    rw [heq]
    exact .tail (.single (write_engine s.slots s.gate queue hwaiters)) (.complete ..)
  | failHeld => exact .tail (.single (write_engine s.slots s.gate _ (List.Sublist.refl _))) (.complete ..)

theorem Acts.writes {s t : State} (h : Acts s t) : Writes s t := by
  induction h with
  | refl => exact .refl
  | tail _ hact ih => exact ih.trans hact.writes

/-! ## What issuing can do, whatever the state (R243 to R245) -/

/-- An unknown handle is not issued; a request that needs a waiter and finds no room completes; a plain AREQ is emitted and completes; and any other
request registers its waiter and is emitted. -/
theorem issue_cases (rid : Nat) (s : State) :
    issue rid s = s ∨
    issue rid s = completeRequest rid (.err .waiterTableFull) s ∨
    (∃ c, FMap.get? rid s.reqs = some c ∧ issue rid s = completeRequest rid .okNone (emitTx c.bytes (setPhase rid .sent s))) ∨
    ∃ c t u n d, FMap.get? rid s.reqs = some c ∧ s.config.waiterCap ≠ some s.waiters.length ∧
      issue rid s = { issued rid t u n d c s with gate := s.gate } := by
  have hawaiting : ∀ c t u n, FMap.get? rid s.reqs = some c → issue rid s = issueAwaiting rid c t u n s →
      issue rid s = completeRequest rid (.err .waiterTableFull) s ∨
      ∃ c t u n d, FMap.get? rid s.reqs = some c ∧ s.config.waiterCap ≠ some s.waiters.length ∧
        issue rid s = { issued rid t u n d c s with gate := s.gate } := by
    intro c t u n hctx hissue
    rcases issueAwaiting_cases rid c t u n s with ⟨-, heq⟩ | ⟨hroom, heq⟩
    · exact .inl (hissue.trans heq)
    · exact .inr ⟨c, t, u, n, _, hctx, hroom, hissue.trans heq⟩
  cases hctx : FMap.get? rid s.reqs with
  | none => exact .inl (by simp only [issue, hctx])
  | some c =>
    cases hkind : c.kind with
    | sreqPath =>
      have hissue : issue rid s = issueAwaiting rid c .srsp c.obj.subsystem c.obj.name s := by simp only [issue, hctx, hkind]
      rw [← hctx]
      exact .inr ((hawaiting c _ _ _ hctx hissue).imp_right .inr)
    | resetPath =>
      have hissue : issue rid s = issueAwaiting rid c .areq Subsys.sys "resetInd" s := by simp only [issue, hctx, hkind]
      rw [← hctx]
      exact .inr ((hawaiting c _ _ _ hctx hissue).imp_right .inr)
    | areqPath => exact .inr (.inr (.inl ⟨c, rfl, by simp only [issue, hctx, hkind]⟩))

/-! ## Whole frames (R36) -/

/-- R70, R76: what FRAME_ENCODE answers is one whole frame. -/
theorem wholeFrame_of_frameEncode {c u k : Nat} {p bytes : List Byte} (h : frameEncode c u k p = .ok bytes) : WholeFrame bytes := by
  unfold frameEncode at h
  split at h
  · cases h
  · split at h
    · cases h
    next hlen =>
      cases h
      have hlength : (BitVec.ofNat 8 p.length).toNat = p.length := by
        rw [BitVec.toNat_ofNat]
        omega
      refine ⟨rfl, ?_, ?_, ?_⟩
      · rw [length_wireBytes]
        omega
      · rw [length_wireBytes]
        exact (congrArg (· + 5) hlength).trans (Nat.add_comm _ _)
      · simp [wireBytes]

theorem wholeFrame_of_buildRequest {tbl : List CommandSpec} {cfg : Config} {u : Nat} {n : String} {p : Fields} {o : CommandObject}
    {bytes : List Byte} {k : ReqKind} (h : buildRequest tbl cfg u n p = .ok (o, bytes, k)) : WholeFrame bytes := by
  unfold buildRequest at h
  split at h
  · cases h
  · split at h
    · cases h
    · split at h
      · cases h
      next hencode =>
        split at h
        · cases h
        · cases h
          exact wholeFrame_of_frameEncode hencode

/-- The entries of a map after a write, canonical or not. -/
theorem mem_of_mem_set {α : Type} {k : Nat} {v : α} {m : List (Nat × α)} {e : Nat × α} (h : e ∈ FMap.set k v m) : e = (k, v) ∨ e ∈ m := by
  induction m with
  | nil => exact .inl (List.mem_singleton.1 h)
  | cons a m ih =>
    unfold FMap.set at h
    split at h
    · exact List.mem_cons.1 h
    · split at h
      · rcases List.mem_cons.1 h with h | h
        · exact .inl h
        · exact .inr (List.mem_cons_of_mem a h)
      · rcases List.mem_cons.1 h with h | h
        · exact .inr (h ▸ List.mem_cons_self)
        · exact (ih h).imp_right (List.mem_cons_of_mem a)

theorem mem_of_mem_completeRequest {rid : Nat} {out : DoneOutcome} {s : State} {e : Nat × ReqCtx}
    (h : e ∈ (completeRequest rid out s).reqs) : e ∈ s.reqs := by
  cases hctx : FMap.get? rid s.reqs with
  | none =>
    rw [completeRequest_of_none hctx] at h
    exact h
  | some c =>
    rw [completeRequest_of_some hctx] at h
    exact ((FMap.mem_erase ..).1 h).1

theorem Write.framesWhole {s t : State} (h : Write s t) (hwhole : s.framesWhole) : t.framesWhole := by
  obtain ⟨htx, hreqs⟩ := hwhole
  have hsent : ∀ f ∈ t.tx, WholeFrame f := by
    rw [h.calm.tx]
    exact htx
  refine ⟨hsent, ?_⟩
  cases h with
  | plain _ hsame =>
    rw [hsame]
    exact hreqs
  | complete => exact fun e he => hreqs e (mem_of_mem_completeRequest he)

/-- A write of a context with whole bytes. -/
theorem framesWhole_set {s : State} (hwhole : s.framesWhole) {c : ReqCtx} (hbytes : WholeFrame c.bytes) (rid : Nat) :
    ({ s with reqs := FMap.set rid c s.reqs } : State).framesWhole := by
  obtain ⟨htx, hreqs⟩ := hwhole
  refine ⟨htx, fun e he => ?_⟩
  rcases mem_of_mem_set he with rfl | he
  · exact hbytes
  · exact hreqs e he

theorem framesWhole_emitTx {s : State} (hwhole : s.framesWhole) {f : List Byte} (hf : WholeFrame f) : (emitTx f s).framesWhole := by
  obtain ⟨htx, hreqs⟩ := hwhole
  refine ⟨fun g hg => ?_, hreqs⟩
  rcases List.mem_append.1 hg with hg | hg
  · exact htx g hg
  · exact List.mem_singleton.1 hg ▸ hf

theorem framesWhole_issue {s : State} (hwhole : s.framesWhole) (rid : Nat) : (issue rid s).framesWhole := by
  have hctxWhole : ∀ c, FMap.get? rid s.reqs = some c → WholeFrame c.bytes := by
    obtain ⟨-, hreqs⟩ := hwhole
    exact fun c hctx => hreqs _ (FMap.mem_of_get? hctx)
  rcases issue_cases rid s with heq | heq | ⟨c, hctx, heq⟩ | ⟨c, t, u, n, d, hctx, -, heq⟩
  · rw [heq]
    exact hwhole
  · rw [heq]
    exact (Write.complete ..).framesWhole hwhole
  · rw [heq, setPhase_of_some hctx]
    have hsent := framesWhole_set (c := { c with phase := .sent }) hwhole (hctxWhole c hctx) rid
    exact (Write.complete ..).framesWhole (framesWhole_emitTx hsent (hctxWhole c hctx))
  · rw [heq]
    have hsent := framesWhole_set (c := { c with phase := .awaitingReply, wid := some s.nextWid }) hwhole (hctxWhole c hctx) rid
    exact framesWhole_emitTx hsent (hctxWhole c hctx)

/-! ## The gate entered, whatever the state (R241, R262) -/

/-- R241, R242: a request enters the gate by being issued, or by changing its phase and the queue. -/
theorem enterGate_cases (rid : Nat) (s : State) :
    enterGate rid s = issue rid { s with gate := .held rid } ∨
      enterGate rid s = { setPhase rid .waitGate s with gateQueue := NSet.insert rid s.gateQueue } := by
  cases hgate : s.gate with
  | free => exact .inl (by simp only [enterGate, hgate])
  | held h => exact .inr (by simp only [enterGate, hgate])

theorem grantGate_issues (s : State) :
    grantGate s = s ∨ ∃ rid n, grantGate s = issue rid { s with choice := n, gateQueue := NSet.erase rid s.gateQueue, gate := .held rid } := by
  rcases grantGate_cases s with ⟨-, heq⟩ | ⟨rid, s1, -, hpick, heq⟩
  · exact .inl heq
  · obtain ⟨-, n, rfl⟩ := pickQueued_mem hpick
    exact .inr ⟨rid, n, heq⟩

theorem framesWhole_setPhase {s : State} (hwhole : s.framesWhole) (rid : Nat) (p : Phase) : (setPhase rid p s).framesWhole := by
  cases hctx : FMap.get? rid s.reqs with
  | none =>
    rw [setPhase_of_none hctx]
    exact hwhole
  | some c =>
    rw [setPhase_of_some hctx]
    have hbytes : WholeFrame c.bytes := by
      obtain ⟨-, hreqs⟩ := hwhole
      exact hreqs _ (FMap.mem_of_get? hctx)
    exact framesWhole_set (c := { c with phase := p }) hwhole hbytes rid

theorem Opens.framesWhole {s t : State} (h : Opens s t) (hwhole : s.framesWhole) : t.framesWhole := by
  cases h with
  | waiter r hreg =>
    obtain ⟨-, -, rfl⟩ := register_ok hreg
    exact hwhole
  | @request u n p _ o bytes k e hbuild =>
    have hbytes : WholeFrame (freshCtx s.config o bytes k e).bytes := wholeFrame_of_buildRequest hbuild
    have hopened : (opened o bytes k e s).framesWhole := framesWhole_set hwhole hbytes s.nextRid
    rcases enterGate_cases s.nextRid (opened o bytes k e s) with heq | heq
    · rw [heq]
      exact framesWhole_issue (s := { opened o bytes k e s with gate := .held s.nextRid }) hopened _
    · rw [heq]
      exact framesWhole_setPhase hopened s.nextRid .waitGate
  | grant =>
    rcases grantGate_issues s with heq | ⟨rid, n, heq⟩
    · rw [heq]
      exact hwhole
    · rw [heq]
      exact framesWhole_issue (s := { s with choice := n, gateQueue := NSet.erase rid s.gateQueue, gate := .held rid }) hwhole rid

/-- Settles O54: a request's bytes are whole when it is built, and nothing else is ever emitted. -/
theorem stepKeepsFramesWhole : Obligations.StepKeepsFramesWhole := by
  intro s t hwhole hstep
  obtain ⟨s1, hquiet, hreach⟩ := reaches_of_step hstep
  have hwhole1 : s1.framesWhole := (Act.quiet hquiet).writes.keep (fun _ _ h => h.framesWhole) hwhole
  rcases hreach with hacts | hopens
  · exact hacts.writes.keep (fun _ _ h => h.framesWhole) hwhole1
  · exact hopens.framesWhole hwhole1

/-! ## One completion per request (R240) -/

/-- The claim reads only which handles are drawn, which are live and which completions were posted. -/
theorem completedOnce_congr {s t : State} (hrid : t.nextRid = s.nextRid) (hkeys : ∀ rid, rid ∈ FMap.keys t.reqs ↔ rid ∈ FMap.keys s.reqs)
    (hdone : ∀ rid, t.completions rid = s.completions rid) (h : s.completedOnce) : t.completedOnce := by
  simp only [State.completedOnce, hrid, hkeys, hdone]
  exact h

theorem completions_append {s t : State} {h : Handle} {out : DoneOutcome} (hdone : t.done = s.done ++ [⟨h, out⟩]) (rid : Nat) :
    t.completions rid = s.completions rid + if h = .req rid then 1 else 0 := by
  rw [State.completions, hdone, List.filter_append, List.length_append, State.completions]
  by_cases heq : h = .req rid <;> simp [heq]

theorem mem_keys_of_get? {α : Type} {k : Nat} {v : α} {m : List (Nat × α)} (h : FMap.get? k m = some v) : k ∈ FMap.keys m :=
  List.mem_map.2 ⟨_, FMap.mem_of_get? h, rfl⟩

/-- R251: a live request gets its completion as it goes; any other handle gets none. -/
theorem completedOnce_completeRequest {s : State} (h : s.completedOnce) (rid : Nat) (out : DoneOutcome) :
    (completeRequest rid out s).completedOnce := by
  cases hctx : FMap.get? rid s.reqs with
  | none =>
    rw [completeRequest_of_none hctx]
    exact h
  | some c =>
    obtain ⟨hdrawn, hfresh⟩ := h
    have hlive := mem_keys_of_get? hctx
    have hlt : rid < s.nextRid := Nat.lt_of_not_le fun hle => (hfresh rid hle).1 hlive
    have hkeys : ∀ k, k ∈ FMap.keys (completeRequest rid out s).reqs ↔ k ∈ FMap.keys s.reqs ∧ k ≠ rid := by
      intro k
      rw [completeRequest_of_some hctx, FMap.keys_erase, NSet.mem_erase]
    have hdone : ∀ k, (completeRequest rid out s).completions k = s.completions k + if Handle.req rid = .req k then 1 else 0 :=
      completions_append (by rw [completeRequest_of_some hctx])
    simp only [State.completedOnce, completeRequest_nextRid, hkeys, hdone, Handle.req.injEq]
    refine ⟨fun k hk => ?_, fun k hk => ?_⟩
    · by_cases hsame : rid = k
      · subst hsame
        have hzero : s.completions rid = 0 := by
          rcases hdrawn rid hk with ⟨-, hzero⟩ | ⟨hgone, -⟩
          · exact hzero
          · exact absurd hlive hgone
        simp [hzero]
      · simpa [hsame, Ne.symm hsame] using hdrawn k hk
    · have hne : rid ≠ k := by omega
      obtain ⟨hgone, hzero⟩ := hfresh k hk
      simp [hne, hgone, hzero]

theorem Write.completedOnce {s t : State} (h : Write s t) (honce : s.completedOnce) : t.completedOnce := by
  cases h with
  | plain _ hreqs hrid hdone =>
    refine completedOnce_congr hrid (fun _ => by rw [hreqs]) (fun rid => ?_) honce
    rcases hdone with hsame | ⟨w, out, happend⟩
    · rw [State.completions, hsame, State.completions]
    · rw [completions_append happend, if_neg nofun, Nat.add_zero]
  | complete rid out => exact completedOnce_completeRequest honce rid out

/-- A context written over a live one changes no handle. -/
theorem mem_keys_set_of_live {rid : Nat} {c c' : ReqCtx} {reqs : List (Nat × ReqCtx)} (hctx : FMap.get? rid reqs = some c) (k : Nat) :
    k ∈ FMap.keys (FMap.set rid c' reqs) ↔ k ∈ FMap.keys reqs := by
  rw [FMap.keys_set, NSet.mem_insert]
  exact ⟨fun h => h.elim (fun h => h ▸ mem_keys_of_get? hctx) id, .inr⟩

theorem completedOnce_setPhase {s : State} (honce : s.completedOnce) (rid : Nat) (p : Phase) : (setPhase rid p s).completedOnce := by
  cases hctx : FMap.get? rid s.reqs with
  | none =>
    rw [setPhase_of_none hctx]
    exact honce
  | some c =>
    rw [setPhase_of_some hctx]
    exact completedOnce_congr (s := s) rfl (mem_keys_set_of_live hctx) (fun _ => rfl) honce

theorem completedOnce_issue {s : State} (honce : s.completedOnce) (rid : Nat) : (issue rid s).completedOnce := by
  rcases issue_cases rid s with heq | heq | ⟨c, -, heq⟩ | ⟨c, t, u, n, d, hctx, -, heq⟩
  · rw [heq]
    exact honce
  · rw [heq]
    exact completedOnce_completeRequest honce rid _
  · rw [heq]
    have hsent : (emitTx c.bytes (setPhase rid .sent s)).completedOnce := completedOnce_setPhase honce rid .sent
    exact completedOnce_completeRequest hsent rid _
  · rw [heq]
    exact completedOnce_congr (s := s) rfl (mem_keys_set_of_live hctx) (fun _ => rfl) honce

/-- R241: a new request is live and has no completion. -/
theorem completedOnce_opened {s : State} (honce : s.completedOnce) (o : CommandObject) (bytes : List Byte) (k : ReqKind) (e : List Int) :
    (opened o bytes k e s).completedOnce := by
  obtain ⟨hdrawn, hfresh⟩ := honce
  have hkeys : ∀ rid, rid ∈ FMap.keys (opened o bytes k e s).reqs ↔ rid = s.nextRid ∨ rid ∈ FMap.keys s.reqs := by
    intro rid
    rw [opened, setReq, FMap.keys_set, NSet.mem_insert]
  have hrid : (opened o bytes k e s).nextRid = s.nextRid + 1 := rfl
  have hdone : ∀ rid, (opened o bytes k e s).completions rid = s.completions rid := fun _ => rfl
  simp only [State.completedOnce, hrid, hkeys, hdone]
  refine ⟨fun rid hlt => ?_, fun rid hle => ?_⟩
  · rcases Nat.lt_succ_iff_lt_or_eq.1 hlt with hlt | rfl
    · simpa [hlt.ne] using hdrawn rid hlt
    · exact .inl ⟨.inl rfl, (hfresh _ le_rfl).2⟩
  · obtain ⟨hgone, hzero⟩ := hfresh rid (by omega)
    exact ⟨by simp [hgone]; omega, hzero⟩

theorem Opens.completedOnce {s t : State} (h : Opens s t) (honce : s.completedOnce) : t.completedOnce := by
  cases h with
  | waiter r hreg =>
    obtain ⟨-, -, rfl⟩ := register_ok hreg
    exact honce
  | @request u n p _ o bytes k e hbuild =>
    have hopened := completedOnce_opened honce o bytes k e
    rcases enterGate_cases s.nextRid (opened o bytes k e s) with heq | heq
    · rw [heq]
      exact completedOnce_issue (s := { opened o bytes k e s with gate := .held s.nextRid }) hopened _
    · rw [heq]
      exact completedOnce_setPhase hopened s.nextRid .waitGate
  | grant =>
    rcases grantGate_issues s with heq | ⟨rid, n, heq⟩
    · rw [heq]
      exact honce
    · rw [heq]
      exact completedOnce_issue (s := { s with choice := n, gateQueue := NSet.erase rid s.gateQueue, gate := .held rid }) honce rid

/-- Settles O55: a request is opened without a completion, and the one thing that removes it posts one. -/
theorem requestsCompleteExactlyOnce : Obligations.RequestsCompleteExactlyOnce := by
  intro s t honce hstep
  obtain ⟨s1, hquiet, hreach⟩ := reaches_of_step hstep
  have honce1 : s1.completedOnce := (Act.quiet hquiet).writes.keep (fun _ _ h => h.completedOnce) honce
  rcases hreach with hacts | hopens
  · exact hacts.writes.keep (fun _ _ h => h.completedOnce) honce1
  · exact hopens.completedOnce honce1

/-! ## What a step may add (R20 to R24, R30 to R36) -/

/-- The construction stays, at most one frame is emitted and at most one waiter registered, where there is room for it; outputs and the handle counter
only grow, and the accumulator keeps its capacity. -/
structure Progress (s t : State) : Prop where
  config : t.config = s.config
  cmdTable : t.cmdTable = s.cmdTable
  handlers : t.handlers = s.handlers
  tx : t.tx = s.tx ∨ ∃ f, t.tx = s.tx ++ [f]
  waiters : (t.nextWid = s.nextWid ∧ t.waiters.Sublist s.waiters) ∨
    (t.nextWid = s.nextWid + 1 ∧ s.config.waiterCap ≠ some s.waiters.length ∧ ∃ x, x.wid = s.nextWid ∧ t.waiters = s.waiters ++ [x])
  evt : s.evt <+: t.evt
  done : s.done <+: t.done
  ret : s.ret <+: t.ret
  room : (∀ c ∈ s.config.rxbufCap, s.rxbuf.length ≤ c) → ∀ c ∈ s.config.rxbufCap, t.rxbuf.length ≤ c

theorem Calm.progress {s t : State} (h : Calm s t) : Progress s t :=
  ⟨h.config, h.cmdTable, h.handlers, .inl h.tx, .inl ⟨h.nextWid, h.waiters⟩, h.evt, h.done, h.ret, h.room⟩

/-- Writes that open nothing may come before, where they keep the pending set. -/
theorem Progress.after {s t u : State} (h : Progress t u) (hcalm : Calm s t) (hwaiters : t.waiters = s.waiters) : Progress s u where
  config := h.config.trans hcalm.config
  cmdTable := h.cmdTable.trans hcalm.cmdTable
  handlers := h.handlers.trans hcalm.handlers
  tx := by
    rw [← hcalm.tx]
    exact h.tx
  waiters := by
    rw [← hcalm.config, ← hcalm.nextWid, ← hwaiters]
    exact h.waiters
  evt := hcalm.evt.trans h.evt
  done := hcalm.done.trans h.done
  ret := hcalm.ret.trans h.ret
  room hroom := by
    have hroom' := h.room
    rw [hcalm.config] at hroom'
    exact hroom' (hcalm.room hroom)

theorem progress_issue (rid : Nat) (s : State) : Progress s (issue rid s) := by
  rcases issue_cases rid s with heq | heq | ⟨c, hctx, heq⟩ | ⟨c, t, u, n, d, -, hroom, heq⟩
  · rw [heq]
    exact (Calm.refl s).progress
  · rw [heq]
    exact (calm_completeRequest ..).progress
  · rw [heq, setPhase_of_some hctx]
    have hdone := calm_completeRequest rid .okNone (emitTx c.bytes { s with reqs := FMap.set rid { c with phase := .sent } s.reqs })
    exact ⟨hdone.config, hdone.cmdTable, hdone.handlers, .inr ⟨c.bytes, hdone.tx⟩, .inl ⟨hdone.nextWid, hdone.waiters⟩, hdone.evt,
      hdone.done, hdone.ret, hdone.room⟩
  · rw [heq]
    exact ⟨rfl, rfl, rfl, .inr ⟨c.bytes, rfl⟩, .inr ⟨rfl, hroom, _, rfl, rfl⟩, List.prefix_rfl, List.prefix_rfl, List.prefix_rfl, id⟩

theorem calm_setPhase (rid : Nat) (p : Phase) (s : State) : Calm s (setPhase rid p s) := by
  cases hctx : FMap.get? rid s.reqs with
  | none =>
    rw [setPhase_of_none hctx]
    exact .refl s
  | some c =>
    rw [setPhase_of_some hctx]
    exact calm_of_engine s.slots s.gate s.gateQueue _ (List.Sublist.refl _) List.prefix_rfl

/-- A write of the requests, the gate and its queue, and an outcome returned. -/
theorem calm_of_requests (s : State) (gate : Gate) (queue : List Nat) (reqs : List (Nat × ReqCtx)) (nextRid choice : Nat)
    {ret : List Response} (hret : s.ret <+: ret) :
    Calm s { s with gate := gate, gateQueue := queue, reqs := reqs, nextRid := nextRid, choice := choice, ret := ret } :=
  ⟨rfl, rfl, rfl, rfl, rfl, List.Sublist.refl _, List.prefix_rfl, List.prefix_rfl, hret, id⟩

theorem Opens.progress {s t : State} (h : Opens s t) : Progress s t := by
  cases h with
  | waiter r hreg =>
    obtain ⟨hroom, -, rfl⟩ := register_ok hreg
    exact ⟨rfl, rfl, rfl, .inl rfl, .inr ⟨rfl, hroom, _, rfl, rfl⟩, List.prefix_rfl, List.prefix_rfl, List.prefix_append .., id⟩
  | @request u n p _ o bytes k e hbuild =>
    have hopened (gate : Gate) (queue : List Nat) : Calm s { opened o bytes k e s with gate := gate, gateQueue := queue } :=
      calm_of_requests s gate queue _ (s.nextRid + 1) s.choice (List.prefix_append ..)
    rcases enterGate_cases s.nextRid (opened o bytes k e s) with heq | heq
    · rw [heq]
      exact (progress_issue _ _).after (hopened (.held s.nextRid) s.gateQueue) rfl
    · rw [heq]
      have hwait := (hopened s.gate s.gateQueue).trans (calm_setPhase s.nextRid .waitGate (opened o bytes k e s))
      exact (hwait.trans (calm_of_requests _ _ _ _ _ _ List.prefix_rfl)).progress
  | grant =>
    rcases grantGate_issues s with heq | ⟨rid, n, heq⟩
    · rw [heq]
      exact (Calm.refl s).progress
    · rw [heq]
      exact (progress_issue _ _).after (calm_of_requests s _ _ s.reqs s.nextRid n List.prefix_rfl) rfl

theorem progress_of_step {s t : State} (h : step s = .next t) : Progress s t := by
  obtain ⟨s1, hquiet, hacts | hopens⟩ := reaches_of_step h
  · exact (hquiet.calm.trans hacts.writes.calm).progress
  · exact hopens.progress.after hquiet.calm hquiet.waiters

@[simp] theorem issue_nextRid (rid : Nat) (s : State) : (issue rid s).nextRid = s.nextRid := by
  rcases issue_cases rid s with heq | heq | ⟨c, -, heq⟩ | ⟨c, t, u, n, d, -, -, heq⟩
  · rw [heq]
  · rw [heq, completeRequest_nextRid]
  · rw [heq, completeRequest_nextRid, emitTx_nextRid, setPhase_nextRid]
  · rw [heq]
    rfl

/-- R24: a step draws one request handle at most. -/
theorem nextRid_of_step {s t : State} (h : step s = .next t) : t.nextRid = s.nextRid ∨ t.nextRid = s.nextRid + 1 := by
  obtain ⟨s1, hquiet, hreach⟩ := reaches_of_step h
  rw [← hquiet.nextRid]
  rcases hreach with hacts | hopens
  · exact .inl hacts.writes.nextRid
  · cases hopens with
    | waiter r hreg =>
      obtain ⟨-, -, rfl⟩ := register_ok hreg
      exact .inl rfl
    | @request u n p _ o bytes k e hbuild =>
      rcases enterGate_cases s1.nextRid (opened o bytes k e s1) with heq | heq
      · rw [heq, issue_nextRid]
        exact .inr rfl
      · rw [heq]
        exact .inr (setPhase_nextRid ..)
    | grant =>
      rcases grantGate_issues s1 with heq | ⟨rid, n, heq⟩
      · rw [heq]
        exact .inl rfl
      · rw [heq, issue_nextRid]
        exact .inl rfl

/-- Settles O56: the accumulator is checked before it grows, and a waiter registers only where there is room. -/
theorem stepKeepsCapacities : Obligations.StepKeepsCapacities := by
  intro s t ⟨hrxbuf, hwaiters⟩ hstep
  have hprogress := progress_of_step hstep
  rw [State.withinCapacity, hprogress.config]
  refine ⟨hprogress.room hrxbuf, fun cap hcap => ?_⟩
  have hle := hwaiters cap hcap
  rcases hprogress.waiters with ⟨-, hsub⟩ | ⟨-, hroom, x, -, heq⟩
  · exact hsub.length_le.trans hle
  · have hne : cap ≠ s.waiters.length := fun h => hroom (h ▸ hcap)
    rw [heq, List.length_append, List.length_singleton]
    omega

/-- Settles O57: waiters only go, but for one that may be registered under the next handle. -/
theorem settledWaitersNeverReturn : Obligations.SettledWaitersNeverReturn := by
  intro s t hstep
  have hrid := nextRid_of_step hstep
  rcases (progress_of_step hstep).waiters with ⟨hwid, hsub⟩ | ⟨hwid, -, x, hx, heq⟩
  · exact ⟨fun y hy => .inl (hsub.subset hy), by omega, by omega, by omega, by omega⟩
  · refine ⟨fun y hy => ?_, by omega, by omega, by omega, by omega⟩
    rw [heq, List.mem_append, List.mem_singleton] at hy
    rcases hy with hy | rfl
    · exact .inl hy
    · exact .inr hx

/-! ## Operands out of range (R80, R303) -/

theorem writeOp_of_not_wf {v : Value} (hv : v.wf = false) (op : Byte) (r : Except Err (List Byte)) (s : State) :
    writeOp op v r s = fails (.illegalOperation op) s := by
  rw [writeOp, hv, checked_false]
  rfl

theorem checked_of_false {ok : Bool} (h : ok = false) (op : Byte) (f : State → State) (s : State) :
    checked op ok f s = fails (.illegalOperation op) s := by
  rw [h, checked_false]
  rfl

/-- R80, R303: the operations whose operands have ranges check them first, and the others take whatever operands they are given. -/
theorem exec_of_not_wf {i : Instr} {who : Agent} {op : Byte} {r : List Operand} (hencode : encode i = .op who op r) (hwf : i.wf = false)
    (s : State) : exec i s = .next (fails (.illegalOperation op) s) := by
  cases i with
  | pwriteUint8 | pwriteUint16 | pwriteUint32 | pwriteIeeeaddr | pwriteBuffer | pwriteBuffer8 | pwriteBuffer16 | pwriteBuffer18
  | pwriteBuffer32 | pwriteBuffer42 | pwriteBuffer100 | pwriteListUint8 | pwriteListUint16 | pwriteListRoutingTable | pwriteListBindTable
  | pwriteListNeighborLqi | pwriteListNetwork | pwriteListAssocDev | pwriteInt8 | pwriteInt16 | pwriteInt32 =>
    obtain ⟨-, rfl, -⟩ := Input.op.inj hencode
    exact congrArg _ (writeOp_of_not_wf hwf _ _ s)
  | frameEncode | toFrame | fromCommand | fromCluster | isResetCommand | lookupById | lookupByName | request | createResponseWaiter
  | frameReceived =>
    obtain ⟨-, rfl, -⟩ := Input.op.inj hencode
    exact congrArg _ (checked_of_false hwf _ _ s)
  | framePoll | frameSreq | frameAreq | frameSrsp | frameReservedType => cases hencode
  | _ => cases hwf

/-- Settles O58: the check of the operands, and what a step may add. -/
theorem stepGoesOnAndKeepsConstruction : Obligations.StepGoesOnAndKeepsConstruction := by
  refine ⟨fun i who op r s hencode hwf => exec_of_not_wf hencode hwf s, fun s => ?_⟩
  obtain ⟨t, hstep, -⟩ := step_reaches s
  have hprogress := progress_of_step hstep
  exact ⟨t, hstep, hprogress.config, hprogress.cmdTable, hprogress.handlers, hprogress.tx, hprogress.evt, hprogress.done, hprogress.ret⟩

/-! ## Reset (R340) -/

/-- Settles O52: nothing is pending, requested or emitted right after reset, and the default table is read entry by entry. -/
theorem invariantsHoldAtReset : Obligations.InvariantsHoldAtReset := by
  have hinv : State.reset.Inv := by
    refine (inv_iff _).2 ⟨⟨rfl, rfl, ?_, ?_, ?_, ?_⟩, ⟨rfl, rfl, ?_, ?_, ?_, .inl rfl, ?_⟩⟩
    all_goals exact nofun
  have hframes : State.reset.framesWhole := ⟨nofun, nofun⟩
  have honce : State.reset.completedOnce := ⟨fun _ h => absurd h (Nat.not_lt_zero _), fun _ _ => ⟨nofun, rfl⟩⟩
  have hcapacity : State.reset.withinCapacity := ⟨nofun, nofun⟩
  have htable : State.reset.tableProper := by
    have htbl : State.reset.cmdTable = Config.defaultTable := rfl
    rw [State.tableProper, htbl]
    decide
  exact ⟨hinv, hframes, honce, hcapacity, htable⟩

end Sys2Proof.Proofs
end

section
/-! PROOFS. The encoder and the decoder are each other's inverse (spec/30_encoding.md R70, R79 to R82, R86), and frames on the wire are received as the
chunks of their bytes (R103). -/

namespace Sys2Proof.Proofs

open Sys2Proof Sys2Proof.Machine Sys2Proof.Claim

/-! ## Wire frames (R70, R86) -/

/-- R86: the frame instruction of a type number. -/
def wireInstr (t : BitVec 3) (l : Byte) (u : Subsystem) (k : Byte) (p : List Byte) (x : Byte) : Instr :=
  match t.toNat with
  | 0 => .framePoll l u k p x
  | 1 => .frameSreq l u k p x
  | 2 => .frameAreq l u k p x
  | 3 => .frameSrsp l u k p x
  | _ => .frameReservedType (t.extractLsb' 0 2) l u k p x

theorem type_cases (t : BitVec 3) : t = 0 ∨ t = 1 ∨ t = 2 ∨ t = 3 ∨ t = 4 ∨ t = 5 ∨ t = 6 ∨ t = 7 := by
  revert t
  decide

theorem encodeFrameInstr_toNat (t : BitVec 3) (l : Byte) (u : Subsystem) (k : Byte) (p : List Byte) (x : Byte) :
    encodeFrameInstr t.toNat l u k p x = .wire (wireBytes l (cmd t u) k p x) := by
  rw [encodeFrameInstr, cmd0_toNat]

theorem encode_wireInstr (t : BitVec 3) (l : Byte) (u : Subsystem) (k : Byte) (p : List Byte) (x : Byte) :
    encode (wireInstr t l u k p x) = .wire (wireBytes l (cmd t u) k p x) := by
  rw [← encodeFrameInstr_toNat]
  rcases type_cases t with rfl | rfl | rfl | rfl | rfl | rfl | rfl | rfl <;> rfl

theorem wireInstr_wf (t : BitVec 3) (l : Byte) (u : Subsystem) (k : Byte) (p : List Byte) (x : Byte) :
    (wireInstr t l u k p x).wf = decide (p.length = l.toNat) := by
  rcases type_cases t with rfl | rfl | rfl | rfl | rfl | rfl | rfl | rfl <;> rfl

/-- The type number of a reserved frame kind, from its two low bits. -/
theorem wireInstr_reserved (t : BitVec 2) (l : Byte) (u : Subsystem) (k : Byte) (p : List Byte) (x : Byte) :
    wireInstr (1#1 ++ t) l u k p x = .frameReservedType t l u k p x := by
  have hcases : t = 0 ∨ t = 1 ∨ t = 2 ∨ t = 3 := by
    revert t
    decide
  rcases hcases with rfl | rfl | rfl | rfl <;> rfl

/-- R86: the fields of a header word stand where the decoder takes them from. -/
theorem headerWord_fields (b0 l c k : Byte) :
    (headerWord b0 l c k).extractLsb' 16 8 = l ∧ (headerWord b0 l c k).extractLsb' 8 5 = c.extractLsb' 0 5 ∧
      (headerWord b0 l c k).extractLsb' 0 8 = k ∧ (headerWord b0 l c k).extractLsb' 13 2 = c.extractLsb' 5 2 := by
  refine ⟨?_, ?_, ?_, ?_⟩
  all_goals
    apply BitVec.eq_of_getLsbD_eq
    intro i hi
    simp only [headerWord, BitVec.getLsbD_extractLsb', BitVec.getLsbD_append]
    grind

theorem cmd_subsystem (t : BitVec 3) (u : Subsystem) : (cmd t u).extractLsb' 0 5 = u := cmd0Subsystem_cmd t u

theorem cmd_type (t : BitVec 3) (u : Subsystem) : (cmd t u).extractLsb' 5 3 = t := cmd0Type_cmd t u

theorem cmd_typeLow (t : BitVec 3) (u : Subsystem) : (cmd t u).extractLsb' 5 2 = t.extractLsb' 0 2 := by
  apply BitVec.eq_of_getLsbD_eq
  intro i hi
  simp only [cmd, BitVec.getLsbD_extractLsb', BitVec.getLsbD_append]
  grind

/-- R86: the frame kind of a type number. -/
def frameKind (t : BitVec 3) : FrameKind :=
  match t.toNat with
  | 0 => .poll
  | 1 => .sreq
  | 2 => .areq
  | 3 => .srsp
  | _ => .reservedType

theorem headerKind_cmd (l : Byte) (t : BitVec 3) (u : Subsystem) (k : Byte) :
    headerKind (headerWord marker l (cmd t u) k) = some (frameKind t) := by
  have hkind := headerSelectsKind marker l (cmd t u) k
  rw [if_pos (show marker = 0xFE from rfl), cmd_type] at hkind
  rw [hkind]
  rcases type_cases t with rfl | rfl | rfl | rfl | rfl | rfl | rfl | rfl <;> rfl

theorem frameInstr_cmd (b0 l : Byte) (t : BitVec 3) (u : Subsystem) (k : Byte) (p : List Byte) (x : Byte) :
    frameInstr (frameKind t) (headerWord b0 l (cmd t u) k) p x = wireInstr t l u k p x := by
  obtain ⟨hl, hu, hk, hlow⟩ := headerWord_fields b0 l (cmd t u) k
  rw [cmd_subsystem] at hu
  rw [cmd_typeLow] at hlow
  have hframe : ∀ kind, frameInstr kind (headerWord b0 l (cmd t u) k) p x =
      match kind with
      | .poll => .framePoll l u k p x
      | .sreq => .frameSreq l u k p x
      | .areq => .frameAreq l u k p x
      | .srsp => .frameSrsp l u k p x
      | .reservedType => .frameReservedType (t.extractLsb' 0 2) l u k p x := by
    intro kind
    cases kind <;> simp only [frameInstr, hl, hu, hk, hlow]
  rw [hframe]
  rcases type_cases t with rfl | rfl | rfl | rfl | rfl | rfl | rfl | rfl <;> rfl

/-- R70, R86: the bytes of a whole frame decode to the frame instruction of their type. -/
theorem decodeFrame_wireBytes {l : Byte} {p : List Byte} (hp : p.length = l.toNat) (t : BitVec 3) (u : Subsystem) (k x : Byte) :
    decodeFrame (wireBytes l (cmd t u) k p x) = some (wireInstr t l u k p x) := by
  have hbytes : wireBytes l (cmd t u) k p x = marker :: l :: cmd t u :: k :: (p ++ [x]) := rfl
  have hlength : (p ++ [x]).length = l.toNat + 1 := by rw [List.length_append, hp, List.length_singleton]
  have htake : (p ++ [x]).take l.toNat = p := by rw [← hp, List.take_left]
  have hlast : (p ++ [x]).getD l.toNat 0 = x := by simp [← hp]
  rw [hbytes]
  simp only [decodeFrame, hlength, if_true, headerKind_cmd, htake, hlast, frameInstr_cmd]

/-- R70, R77: a chunk that decodes to a frame is that frame's bytes. -/
theorem exists_wireBytes_of_decodeFrame {bs : List Byte} {i : Instr} (h : decodeFrame bs = some i) :
    ∃ (t : BitVec 3) (l : Byte) (u : Subsystem) (k : Byte) (p : List Byte) (x : Byte),
      p.length = l.toNat ∧ bs = wireBytes l (cmd t u) k p x := by
  match bs, h with
  | b0 :: l :: c :: k :: rest, h =>
    have hlength : rest.length = l.toNat + 1 := by
      by_contra hne
      simp only [decodeFrame, hne, if_false] at h
      cases h
    have hmarker : b0 = 0xFE := by
      by_contra hne
      have hkind := headerSelectsKind b0 l c k
      rw [if_neg hne] at hkind
      simp only [decodeFrame, hlength, if_true, hkind] at h
      cases h
    have hcmd : cmd (c.extractLsb' 5 3) (c.extractLsb' 0 5) = c := BitVec.extractLsb'_append_extractLsb' (w := 3) (len := 5)
    have hrest : rest = rest.take l.toNat ++ [rest.getD l.toNat 0] := by
      have hlast : rest.drop l.toNat = [rest.getD l.toNat 0] := by
        rw [List.drop_eq_getElem_cons (by omega), List.drop_eq_nil_of_le (by omega), List.getD_eq_getElem _ _ (by omega)]
      rw [← hlast, List.take_append_drop]
    refine ⟨c.extractLsb' 5 3, l, c.extractLsb' 0 5, k, rest.take l.toNat, rest.getD l.toNat 0, ?_, ?_⟩
    · rw [List.length_take]
      omega
    · rw [hcmd, hmarker]
      exact congrArg (0xFE :: l :: c :: k :: ·) hrest

/-! ## Decoding what was encoded -/

theorem decode_encode_wireInstr {l : Byte} {p : List Byte} (hp : p.length = l.toNat) (t : BitVec 3) (u : Subsystem) (k x : Byte) :
    decode (encode (wireInstr t l u k p x)) = .ok (wireInstr t l u k p x) := by
  rw [encode_wireInstr, decode, decodeFrame_wireBytes hp, Option.getD_some]

/-- Settles O1: every operation word and its record come back by evaluation, and a frame is that of its type and its bytes. -/
theorem decodeEncodeAgree : Obligations.DecodeEncodeAgree := by
  intro i hwf
  cases i with
  | framePoll l u k p x => exact decode_encode_wireInstr (of_decide_eq_true hwf) 0 u k x
  | frameSreq l u k p x => exact decode_encode_wireInstr (of_decide_eq_true hwf) 1 u k x
  | frameAreq l u k p x => exact decode_encode_wireInstr (of_decide_eq_true hwf) 2 u k x
  | frameSrsp l u k p x => exact decode_encode_wireInstr (of_decide_eq_true hwf) 3 u k x
  | frameReservedType t l u k p x =>
    rw [← wireInstr_reserved]
    exact decode_encode_wireInstr (of_decide_eq_true hwf) (1#1 ++ t) u k x
  | _ => rfl

/-! ## Encoding what was decoded -/

/-- R78: an operation word is its unit and its function. -/
theorem word_eq {op : Byte} {unit function : Nat} (hunit : opUnit op = unit) (hfunction : opFunction op = function) :
    op = BitVec.ofNat 8 (32 * unit + function) := by
  rw [← hunit, ← hfunction, opUnit, opFunction, Nat.div_add_mod, BitVec.ofNat_toNat, BitVec.setWidth_eq]

/-- An operation that an agent presents with this word and record. -/
def PresentedAs (i : Instr) (op : Byte) (r : List Operand) : Prop := ∃ by', encode i = .op by' op r

section Units

variable {op : Byte} {r : List Operand} {i : Instr}

theorem presentedAs_of_decodeFrameCodec (hunit : opUnit op = 0) (h : decodeFrameCodec op r = .ok i) : PresentedAs i op r := by
  unfold decodeFrameCodec at h
  split at h
  case h_1 hf => rw [word_eq hunit hf]; split at h <;> cases h; exact ⟨_, rfl⟩
  case h_2 hf => rw [word_eq hunit hf]; split at h <;> cases h; exact ⟨_, rfl⟩
  case h_3 hf => rw [word_eq hunit hf]; split at h <;> cases h; exact ⟨_, rfl⟩
  case h_4 => cases h

/-- R82: the number of a tag that has a rule. -/
theorem toNat_of_tagOfNat? {n : Nat} {t : Tag} (h : Tag.ofNat? n = some t) : t.toNat = n := by
  have hlt : n < 21 := by
    by_contra hge
    rw [tagOfNat?_eq_none (Nat.not_lt.1 hge)] at h
    cases h
  have hall : ∀ m < 21, (Tag.ofNat? m).map Tag.toNat = some m := by decide
  have hn := hall n hlt
  rw [h] at hn
  exact Option.some.inj hn

theorem encode_writeInstr (t : Tag) (v : Value) (w : List Byte) : encode (writeInstr t v w) = encodeWrite t v w := by
  cases t <;> rfl

theorem encode_readInstr (t : Tag) (o : ReadOpts) (b : List Byte) (p : Nat) : encode (readInstr t o b p) = encodeRead t o b p := by
  cases t <;> rfl

theorem presentedAs_of_decodeWrite (hunit : opUnit op = 1) (h : decodeWrite op r = .ok i) : PresentedAs i op r := by
  unfold decodeWrite at h
  split at h
  · split at h
    next t htag =>
      cases h
      refine ⟨.caller, ?_⟩
      rw [encode_writeInstr, encodeWrite, writeWord, toNat_of_tagOfNat? htag]
      exact congrArg (Input.op .caller · _) (word_eq hunit rfl).symm
    · split at h <;> cases h
  · cases h

theorem presentedAs_of_decodeRead (hunit : opUnit op = 2) (h : decodeRead op r = .ok i) : PresentedAs i op r := by
  unfold decodeRead at h
  split at h
  · split at h
    next t htag =>
      cases h
      refine ⟨.caller, ?_⟩
      rw [encode_readInstr, encodeRead, readWord, toNat_of_tagOfNat? htag]
      exact congrArg (Input.op .caller · _) (word_eq hunit rfl).symm
    · cases h
  · cases h

theorem presentedAs_of_decodeCommandObject (hunit : opUnit op = 3) (h : decodeCommandObject op r = .ok i) : PresentedAs i op r := by
  unfold decodeCommandObject at h
  split at h
  case h_8 => cases h
  all_goals
    next hf =>
      rw [word_eq hunit hf]
      split at h <;> cases h
      exact ⟨_, rfl⟩

theorem presentedAs_of_decodeRequestEngine (hunit : opUnit op = 4) (h : decodeRequestEngine op r = .ok i) : PresentedAs i op r := by
  unfold decodeRequestEngine at h
  split at h
  case h_8 => cases h
  all_goals
    next hf =>
      rw [word_eq hunit hf]
      split at h <;> cases h
      exact ⟨_, rfl⟩

theorem presentedAs_of_decodeInternal {who : Agent} (hunit : opUnit op = 7) (h : decodeInternal who op r = .ok i) : PresentedAs i op r := by
  unfold decodeInternal at h
  split at h
  case h_3 => cases h
  all_goals
    next hf =>
      rw [word_eq hunit hf]
      split at h
      · split at h <;> cases h
        exact ⟨_, rfl⟩
      · cases h

/-- R78 to R81: unit by unit, the instruction that a word and its record decode to is presented as they are. -/
theorem presentedAs_of_decodeOp {who : Agent} (h : decodeOp who op r = .ok i) : PresentedAs i op r := by
  unfold decodeOp at h
  split at h
  next hunit => exact presentedAs_of_decodeFrameCodec hunit h
  next hunit => exact presentedAs_of_decodeWrite hunit h
  next hunit => exact presentedAs_of_decodeRead hunit h
  next hunit => exact presentedAs_of_decodeCommandObject hunit h
  next hunit => exact presentedAs_of_decodeRequestEngine hunit h
  next hunit => exact presentedAs_of_decodeInternal hunit h
  next => cases h

end Units

/-- Settles O2: the word determines its unit and function, and a frame's bytes determine its fields. -/
theorem encodeDecodeAgree : Obligations.EncodeDecodeAgree := by
  refine ⟨fun who op r i h => presentedAs_of_decodeOp h, fun bs i h => ?_⟩
  rw [decode, Except.ok.injEq] at h
  cases hframe : decodeFrame bs with
  | none =>
    rw [hframe] at h
    exact .inl ⟨h.symm, rfl⟩
  | some j =>
    obtain ⟨t, l, u, k, p, x, hp, rfl⟩ := exists_wireBytes_of_decodeFrame hframe
    rw [decodeFrame_wireBytes hp] at h
    obtain rfl : wireInstr t l u k p x = i := h
    exact .inr ⟨encode_wireInstr .., by rw [Instr.WellFormed, wireInstr_wf, decide_eq_true hp]⟩

/-- Settles O3: each of the eight is decoded by evaluation. -/
theorem tableWordsDecode : Obligations.TableWordsDecode :=
  ⟨rfl, rfl, rfl, rfl, rfl, rfl, rfl, rfl⟩

/-! ## Steps (R50) -/

/-- Settles O7: the next input decides, and where there is none whether GATE_GRANT is enabled. -/
theorem stepRunsDecodedInstruction : Obligations.StepRunsDecodedInstruction := by
  refine ⟨?_, ?_, ?_⟩
  · intro s x rest i hport hdecode _
    simp only [step, hport, hdecode]
    rfl
  · intro s hport hgate hqueue
    have henabled : grantEnabled s = true := by simp [grantEnabled, hgate, hqueue]
    simp only [step, hport, henabled, if_true]
  · intro s hport hdisabled
    have hnot : grantEnabled s = false := by
      rw [grantEnabled, Bool.and_eq_false_iff, decide_eq_false_iff_not, Bool.not_eq_false', List.isEmpty_iff]
      exact hdisabled
    simp only [step, hport, hnot, Bool.false_eq_true, if_false]

/-! ## Frames received from the wire (R86, R103) -/

/-- R86, R103: a frame delivered is an RX_PUSH of its bytes. -/
theorem deliverFrame_eq {c : Nat} {t : BitVec 3} (hc : c = t.toNat) (l : Byte) (u : Subsystem) (k : Byte) (p : List Byte) (x : Byte) (s : State) :
    .next (deliverFrame c l u k p x s) = exec (.rxPush (frameBytes t l u k p x)) s := by
  rw [hc, deliverFrame, cmd0_toNat]
  rfl

theorem reservedType_toNat (t : BitVec 2) : 4 + t.toNat = (1#1 ++ t).toNat := by
  revert t
  decide

theorem extracted_config (l c id : Byte) (p : List Byte) (x : Byte) (s : State) : (extracted l c id p x s).config = s.config := by
  rw [← rxDeliver_wireBytes, rxDeliver_config]

/-- R108 to R110: a whole frame pushed into an empty accumulator, in SINGLE mode and longer than MIN_FRAME_LEN. -/
theorem exec_rxPush_frameBytes {l : Byte} {p : List Byte} {s : State} (hp : p.length = l.toNat) (hempty : s.rxbuf = [])
    (hmode : s.config.drainMode = .single) (hmin : s.config.minFrameLen < 5 + l.toNat)
    (hcap : ∀ c ∈ s.config.rxbufCap, 5 + l.toNat ≤ c) (t : BitVec 3) (u : Subsystem) (k x : Byte) :
    exec (.rxPush (frameBytes t l u k p x)) s = .next (gives .none (extracted l (cmd t u) k p x s)) := by
  have hbytes : frameBytes t l u k p x = wireBytes l (cmd t u) k p x := rfl
  have hlength : (frameBytes t l u k p x).length = 5 + l.toNat := by rw [hbytes, length_wireBytes, hp]
  have hbuf : s.rxbuf ++ frameBytes t l u k p x = wireBytes l (cmd t u) k p x ++ [] := by rw [hempty, List.nil_append, List.append_nil, hbytes]
  have hfits : chunkFits s (frameBytes t l u k p x) := by
    intro c hc
    rw [hempty, hlength, List.length_nil, Nat.zero_add]
    exact hcap c hc
  have hmin' : s.config.minFrameLen < (s.rxbuf ++ frameBytes t l u k p x).length := by
    rw [hempty, List.nil_append, hlength]
    exact hmin
  have hsame : { s with rxbuf := [] } = s := by rw [← hempty]
  have hdrained : drained (extracted l (cmd t u) k p x s) = extracted l (cmd t u) k p x s := by
    simp only [drained, extracted_config, hmode]
  rw [exec_rxPush, receiveChunk_of_wireBytes hfits hbuf hp hmin', hsame, hdrained]

/-- Settles O15: the five rows are the pushes of their bytes, and an empty accumulator then holds the frame alone. -/
theorem wireFramesAreReceived : Obligations.WireFramesAreReceived := by
  have hrows : ∀ (l : Byte) (u : Subsystem) (k : Byte) (p : List Byte) (x : Byte) (s : State),
      exec (.framePoll l u k p x) s = exec (.rxPush (frameBytes 0 l u k p x)) s ∧
      exec (.frameSreq l u k p x) s = exec (.rxPush (frameBytes 1 l u k p x)) s ∧
      exec (.frameAreq l u k p x) s = exec (.rxPush (frameBytes 2 l u k p x)) s ∧
      exec (.frameSrsp l u k p x) s = exec (.rxPush (frameBytes 3 l u k p x)) s ∧
      (∀ t : BitVec 2, exec (.frameReservedType t l u k p x) s = exec (.rxPush (frameBytes ((1 : BitVec 1) ++ t) l u k p x)) s) :=
    fun l u k p x s => ⟨deliverFrame_eq (t := 0) rfl l u k p x s, deliverFrame_eq (t := 1) rfl l u k p x s,
      deliverFrame_eq (t := 2) rfl l u k p x s, deliverFrame_eq (t := 3) rfl l u k p x s,
      fun t => deliverFrame_eq (reservedType_toNat t) l u k p x s⟩
  refine ⟨hrows, ?_⟩
  intro l u k p x s hp hempty hmode hmin hcap
  obtain ⟨hpoll, hsreq, hareq, hsrsp, hreserved⟩ := hrows l u k p x s
  have hpush := exec_rxPush_frameBytes hp hempty hmode hmin hcap
  exact ⟨hpoll.trans (hpush 0 u k x), hsreq.trans (hpush 1 u k x), hareq.trans (hpush 2 u k x), hsrsp.trans (hpush 3 u k x),
    fun t => (hreserved t).trans (hpush _ u k x)⟩

/-! ## The time and the accumulator (R20, R25) -/

/-- The time and the accumulator stand still. -/
structure Still (s t : State) : Prop where
  now : t.now = s.now
  rxbuf : t.rxbuf = s.rxbuf

/-- From a state of the same time and accumulator. -/
theorem Still.of {s s' t : State} (h : Still s' t) (hnow : s'.now = s.now) (hbuf : s'.rxbuf = s.rxbuf) : Still s t :=
  ⟨h.now.trans hnow, h.rxbuf.trans hbuf⟩

theorem Still.trans {s t u : State} (h : Still s t) (h' : Still t u) : Still s u := ⟨h'.now.trans h.now, h'.rxbuf.trans h.rxbuf⟩

theorem still_settle (x : Waiter) (r : SlotResult) (s : State) : Still s (settle x r s) := ⟨settle_now .., settle_rxbuf ..⟩

theorem still_completeRequest (rid : Nat) (out : DoneOutcome) (s : State) : Still s (completeRequest rid out s) :=
  ⟨completeRequest_now .., completeRequest_rxbuf ..⟩

theorem still_settleAll (r : Waiter → SlotResult) (l : List Waiter) (s : State) : Still s (settleAll r l s) := by
  induction l generalizing s with
  | nil => exact ⟨rfl, rfl⟩
  | cons x l ih => exact (still_settle x (r x) s).trans (ih _)

theorem still_frameReceived (f : Frame) (s : State) : Still s (frameReceived f s) := by
  refine ⟨?_, frameReceived_rxbuf f s⟩
  unfold frameReceived
  split
  · rfl
  · split
    · exact settle_now ..
    · unfold dispatch
      split <;> rfl

theorem still_failQueued (k : Nat) (s : State) : Still s (failQueued k s) := by
  induction k generalizing s with
  | zero => exact ⟨rfl, rfl⟩
  | succ k ih =>
    cases hpick : pickQueued s with
    | none =>
      simp only [failQueued, hpick]
      exact ⟨rfl, rfl⟩
    | some picked =>
      obtain ⟨rid, s1⟩ := picked
      obtain ⟨-, n, rfl⟩ := pickQueued_mem hpick
      have hfail : Still s (failHeld rid { s with choice := n }) :=
        .of (still_completeRequest rid (.err .disconnected) (unqueue rid { s with choice := n })) rfl rfl
      rw [failQueued_of_pick hpick]
      exact hfail.trans (ih _)

theorem still_disconnectOp (s : State) : Still s (disconnectOp s) := by
  cases hmode : s.config.failOnDisconnect with
  | false =>
    simp only [disconnectOp, hmode, Bool.false_eq_true, if_false]
    exact ⟨rfl, rfl⟩
  | true =>
    rw [disconnectOp_of_failing hmode]
    have hall : Still s (settleAll (fun _ => .failed) s.waiters (emitEvt .disconnected s))  :=
      .of (still_settleAll _ _ (emitEvt .disconnected s)) rfl rfl
    exact hall.trans (still_failQueued _ _)

theorem still_issue (rid : Nat) (s : State) : Still s (issue rid s) := by
  rcases issue_cases rid s with heq | heq | ⟨c, -, heq⟩ | ⟨c, t, u, n, d, -, -, heq⟩
  · rw [heq]
    exact ⟨rfl, rfl⟩
  · rw [heq]
    exact still_completeRequest ..
  · rw [heq]
    have hsent : Still s (emitTx c.bytes (setPhase rid .sent s)) := ⟨setPhase_now .., setPhase_rxbuf ..⟩
    exact hsent.trans (still_completeRequest ..)
  · rw [heq]
    exact ⟨rfl, rfl⟩

theorem still_enterGate (rid : Nat) (s : State) : Still s (enterGate rid s) := by
  rcases enterGate_cases rid s with heq | heq
  · rw [heq]
    exact .of (still_issue rid _) rfl rfl
  · rw [heq]
    exact ⟨setPhase_now .., setPhase_rxbuf ..⟩

theorem still_grantGate (s : State) : Still s (grantGate s) := by
  rcases grantGate_issues s with heq | ⟨rid, n, heq⟩
  · rw [heq]
    exact ⟨rfl, rfl⟩
  · rw [heq]
    exact .of (still_issue rid _) rfl rfl

theorem still_requestOp (u : Nat) (n : String) (p : Fields) (e : List Int) (s : State) : Still s (requestOp u n p e s) := by
  cases hbuild : buildRequest s.cmdTable s.config u n p with
  | error x =>
    simp only [requestOp, hbuild]
    exact ⟨rfl, rfl⟩
  | ok built =>
    obtain ⟨o, bytes, k⟩ := built
    rw [requestOp_of_build hbuild]
    exact .of (still_enterGate s.nextRid (opened o bytes k e s)) rfl rfl

theorem still_createWaiterOp (c u : Nat) (n : String) (m : Fields) (timeout : Option Nat) (s : State) :
    Still s (createWaiterOp c u n m timeout s) := by
  unfold createWaiterOp
  split
  · exact ⟨rfl, rfl⟩
  · split
    · exact ⟨rfl, rfl⟩
    next hreg =>
      obtain ⟨-, -, rfl⟩ := register_ok hreg
      exact ⟨rfl, rfl⟩

theorem still_awaitOp (w : Nat) (s : State) : Still s (awaitOp w s) := by
  unfold awaitOp
  split
  · exact ⟨rfl, rfl⟩
  · split
    · exact ⟨rfl, rfl⟩
    · split <;> exact ⟨rfl, rfl⟩

theorem still_cancelRequestOp (rid : Nat) (s : State) : Still s (cancelRequestOp rid s) := by
  obtain ⟨waiters, queue, -, heq⟩ := exists_cancelRequestOp_eq rid s
  rw [heq]
  exact .of (still_completeRequest ..) rfl rfl

theorem still_cancelWaiterOp (w : Nat) (s : State) : Still s (cancelWaiterOp w s) := by
  unfold cancelWaiterOp
  split
  · exact ⟨rfl, rfl⟩
  · split
    · exact ⟨rfl, rfl⟩
    · exact .trans (still_settle _ .cancelled s) ⟨rfl, rfl⟩

theorem still_checked (op : Byte) (ok : Bool) {f : State → State} {s : State} (h : Still s (f s)) : Still s (checked op ok f s) := by
  rcases checked_cases op ok f s with ⟨-, heq⟩ | ⟨-, heq⟩
  · rw [heq]
    exact h
  · rw [heq]
    exact ⟨rfl, rfl⟩

theorem rxPasses_now (k : Nat) (s : State) : (rxPasses k s).now = s.now := by
  induction k generalizing s with
  | zero => rfl
  | succ k ih =>
    cases hscan : rxScan s.config s.rxbuf with
    | wait keep => rw [rxPasses_of_wait hscan]
    | frame f rest =>
      have hdeliver : (rxDeliver f { s with rxbuf := rest }).now = s.now := by
        dsimp only [rxDeliver]
        split
        · exact (still_frameReceived _ { s with rxbuf := rest }).now
        · rfl
      cases hmode : s.config.drainMode with
      | single => rw [rxPasses_of_frame_single hscan hmode, hdeliver]
      | loop => rw [rxPasses_of_frame_loop hscan hmode, ih, hdeliver]

theorem receiveChunk_now (chunk : List Byte) (s : State) : (receiveChunk chunk s).now = s.now := by
  unfold receiveChunk
  split
  · rfl
  · rw [rxPasses_now]

/-- The instructions that carry bytes from the transport: RX_PUSH and the frames on the wire. -/
def carriesBytes (i : Instr) : Prop := (∃ chunk, i = .rxPush chunk) ∨ ∃ bs, encode i = .wire bs

/-- R20, R25: what an instruction does to the time and to the accumulator. -/
theorem exec_clock_buffer {i : Instr} {s t : State} (h : exec i s = .next t) :
    (t.now = s.now ∨ ∃ dt, i = .tick dt ∧ t.now = s.now + dt) ∧ (t.rxbuf = s.rxbuf ∨ carriesBytes i) := by
  have hstill : ∀ u : State, exec i s = .next u → Still s u →
      (t.now = s.now ∨ ∃ dt, i = .tick dt ∧ t.now = s.now + dt) ∧ (t.rxbuf = s.rxbuf ∨ carriesBytes i) := by
    intro u hexec hu
    rw [h, Host.Outcome.next.injEq] at hexec
    exact ⟨.inl (hexec ▸ hu.now), .inl (hexec ▸ hu.rxbuf)⟩
  by_cases hpure : pureOperation i = true
  · obtain ⟨r, hexec, -⟩ := exec_answerAlike_of_pure hpure (rfl : s.config = s.config) rfl
    exact hstill _ hexec ⟨rfl, rfl⟩
  · cases i with
    | rxPush chunk =>
      cases h
      exact ⟨.inl (receiveChunk_now chunk s), .inr (.inl ⟨chunk, rfl⟩)⟩
    | framePoll | frameSreq | frameAreq | frameSrsp | frameReservedType =>
      cases h
      exact ⟨.inl (receiveChunk_now _ s), .inr (.inr ⟨_, rfl⟩)⟩
    | tick dt =>
      cases h
      have htick := still_settleAll (fun x => .timedOut x.subsystem x.name) (s.waiters.filter (fun x => x.deadline ≤ s.now + dt))
        { s with now := s.now + dt }
      exact ⟨.inr ⟨dt, rfl, htick.now⟩, .inl htick.rxbuf⟩
    | request => exact hstill _ rfl (still_checked _ _ (still_requestOp ..))
    | createResponseWaiter => exact hstill _ rfl (still_checked _ _ (still_createWaiterOp ..))
    | await w => exact hstill _ rfl (still_awaitOp w s)
    | cancelRequest rid => exact hstill (gives .none (cancelRequestOp rid s)) rfl ((still_cancelRequestOp rid s).trans ⟨rfl, rfl⟩)
    | cancelWaiter w => exact hstill _ rfl (still_cancelWaiterOp w s)
    | disconnect => exact hstill (gives .none (disconnectOp s)) rfl ((still_disconnectOp s).trans ⟨rfl, rfl⟩)
    | frameReceived f => exact hstill _ rfl (still_checked _ _ (still_frameReceived f s))
    | gateGrant => exact hstill _ rfl (still_grantGate s)
    | _ => exact absurd rfl hpure

/-- Settles O59: only TICK moves the time and only bytes move the accumulator, and the word of each is known from what it is presented as. -/
theorem onlyTickMovesTimeOnlyBytesMoveBuffer : Obligations.OnlyTickMovesTimeOnlyBytesMoveBuffer := by
  intro s t hstep
  unfold step at hstep
  split at hstep
  · split at hstep
    · cases hstep
      have hgrant := still_grantGate s
      exact ⟨.inl hgrant.now, .inl hgrant.rxbuf⟩
    · cases hstep
      exact ⟨.inl rfl, .inl rfl⟩
  next x rest hport =>
    split at hstep
    next i hdecode =>
      obtain ⟨hnow, hbuf⟩ := exec_clock_buffer hstep
      cases x with
      | wire bs =>
        refine ⟨hnow.imp_right ?_, .inr (.inr ⟨bs, rest, hport⟩)⟩
        rintro ⟨dt, rfl, -⟩
        obtain ⟨hpush, -⟩ | ⟨hencode, -⟩ := encodeDecodeAgree.2 bs _ hdecode
        · cases hpush
        · cases hencode
      | op who word r =>
        obtain ⟨by', hencode⟩ := encodeDecodeAgree.1 who word r i hdecode
        refine ⟨hnow.imp_right ?_, hbuf.imp_right ?_⟩
        · rintro ⟨dt, rfl, hlater⟩
          obtain ⟨-, rfl, rfl⟩ := Input.op.inj hencode
          exact ⟨who, dt, rest, hport, hlater⟩
        · rintro (⟨chunk, rfl⟩ | ⟨bs, hwire⟩)
          · obtain ⟨-, rfl, rfl⟩ := Input.op.inj hencode
            exact .inl ⟨who, chunk, rest, hport⟩
          · rw [hencode] at hwire
            cases hwire
    next e hdecode =>
      cases hstep
      exact ⟨.inl rfl, .inl rfl⟩

end Sys2Proof.Proofs
end

section
/-! PROOFS. FROM_FRAME and the application path of FROM_CLUSTER (spec/42_command_object.md R207, R210), and the matching of waiters
(spec/43_request_engine.md R258). Two payloads in the one canonical form are the same map when every name has the same value in both, so equality of
records comes down to equality field by field. -/

namespace Sys2Proof.Proofs

open Sys2Proof Sys2Proof.Machine Sys2Proof.Claim

/-! ## FROM_FRAME (R207) -/

theorem exec_fromFrame (f : Frame) (s : State) :
    exec (.fromFrame f) s = .next (answer ((fromFrame s.cmdTable s.config f).map .object) s) := rfl

theorem fromFrame_of_lookup {tbl : List CommandSpec} {cfg : Config} {f : Frame} {t : CmdType} {e : CommandSpec}
    (htype : f.commandType = typeBits t) (hlookup : lookupById tbl f.subsystem.toNat f.commandId.toNat = .ok e) :
    fromFrame tbl cfg f = (readSchema cfg (schemaOf e t) f.payload).map
      fun m => ⟨t, f.subsystem, e.name, f.commandId, m, schemaOf e t, none⟩ := by
  simp only [fromFrame, htype, ofNat?_typeBits, hlookup, schemaFor_eq_schemaOf]
  cases readSchema cfg (schemaOf e t) f.payload <;> rfl

theorem fromFrame_of_lookup_error {tbl : List CommandSpec} {cfg : Config} {f : Frame} {t : CmdType} {x : Err}
    (htype : f.commandType = typeBits t) (hlookup : lookupById tbl f.subsystem.toNat f.commandId.toNat = .error x) :
    fromFrame tbl cfg f = .error x := by
  simp only [fromFrame, htype, ofNat?_typeBits, hlookup]

/-- R73: a type number that is not reserved is that of a type. -/
theorem exists_typeBits_eq {b : BitVec 3} (h : b.toNat ≤ 3) : ∃ t, b = typeBits t := by
  rcases type_cases b with rfl | rfl | rfl | rfl | rfl | rfl | rfl | rfl
  · exact ⟨.poll, rfl⟩
  · exact ⟨.sreq, rfl⟩
  · exact ⟨.areq, rfl⟩
  · exact ⟨.srsp, rfl⟩
  all_goals exact absurd h (by decide)

/-- Settles O26: the type, then the lookup, then the walk decides. -/
theorem fromFrameBindsPayload : Obligations.FromFrameBindsPayload := by
  intro f s
  refine ⟨?_, ?_, ?_, ?_⟩
  · intro t e m htype hentry hwalk
    rw [exec_fromFrame, fromFrame_of_lookup htype (lookupById_of_entry hentry), hwalk]
    rfl
  · intro t e x htype hentry hwalk
    rw [exec_fromFrame, fromFrame_of_lookup htype (lookupById_of_entry hentry), hwalk]
    rfl
  · intro hle habsent
    obtain ⟨t, htype⟩ := exists_typeBits_eq hle
    have hlookup := lookupById_of_absent (tbl := s.cmdTable) (u := f.subsystem.toNat) (k := f.commandId.toNat)
      fun d hd ⟨hsub, hid⟩ => habsent d hd ⟨BitVec.eq_of_toNat_eq hsub, BitVec.eq_of_toNat_eq hid⟩
    rw [exec_fromFrame, fromFrame_of_lookup_error htype hlookup]
    rfl
  · intro hreserved
    rw [exec_fromFrame, fromFrame_of_reservedType hreserved]
    rfl

/-! ## The application path of FROM_CLUSTER (R210) -/

theorem exec_fromCluster_of_not_range {dst profile cluster srcEp dstEp tsn : Nat}
    (h : 0xFFFF < dst ∨ 0xFFFF < profile ∨ 0xFFFF < cluster ∨ 255 < srcEp ∨ 255 < dstEp ∨ 255 < tsn) (data : List Byte) (s : State) :
    exec (.fromCluster dst profile cluster srcEp dstEp tsn data) s = .next (fails (.illegalOperation 0x63) s) := by
  have hbad : Operands.fromCluster dst profile cluster srcEp dstEp tsn = false := decide_eq_false (by omega)
  rw [exec_fromCluster, hbad, checked_false]
  rfl

/-- R210: the nine fields stand in the order of their names. -/
theorem dataRequestPayload_eq (cfg : Config) (dst cluster srcEp dstEp tsn : Nat) (data : List Byte) :
    dataRequestPayload cfg dst cluster srcEp dstEp tsn data =
      .cons "clusterid" (.int cluster) (.cons "data" (.bytes data) (.cons "destendpoint" (.int dstEp)
        (.cons "dstaddr" (.nwk (BitVec.ofNat 16 dst)) (.cons "len" (.int data.length) (.cons "options" (.int cfg.afOptions.toNat)
          (.cons "radius" (.int cfg.afRadius.toNat) (.cons "srcendpoint" (.int srcEp) (.cons "transid" (.int tsn) .nil)))))))) := by
  simp only [dataRequestPayload, Fields.ofList, List.foldl, Fields.set, String.reduceLT, String.reduceEq, if_true, if_false]

/-- Settles O29: the lookup of `dataRequest` alone decides, and the payload is built from the operands. -/
theorem fromClusterBuildsDataRequest : Obligations.FromClusterBuildsDataRequest := by
  intro dst profile cluster srcEp dstEp tsn data s
  refine ⟨?_, fun hout => exec_fromCluster_of_not_range hout data s⟩
  intro hdst hprofile hcluster hsrc hdep htsn hne
  have hexec := exec_fromCluster_of_range hdst hprofile hcluster hsrc hdep htsn data s
  rw [fromCluster, if_neg hne] at hexec
  refine ⟨?_, ?_⟩
  · intro e hentry
    have hlookup : lookupByName s.cmdTable Subsys.af.toNat "dataRequest" = .ok e := lookupByName_of_entry hentry
    rw [hexec, fromClusterData, hlookup, ← dataRequestPayload_eq]
    rfl
  · intro habsent
    have hlookup : lookupByName s.cmdTable Subsys.af.toNat "dataRequest" = .error (.unknownCommand (.byName 4 "dataRequest")) :=
      lookupByName_of_absent fun d hd ⟨hsub, hname⟩ => habsent d hd ⟨BitVec.eq_of_toNat_eq hsub, hname⟩
    rw [hexec, fromClusterData, hlookup]
    rfl

/-! ## Canonical maps (R11) -/

theorem fields_wf_cons {k : String} {v : Value} {m : Fields} (h : (Fields.cons k v m).wf = true) :
    v.wf = true ∧ m.keyAbove k = true ∧ m.wf = true := by
  rw [Fields.wf, Bool.and_eq_true, Bool.and_eq_true] at h
  obtain ⟨⟨hv, habove⟩, hm⟩ := h
  exact ⟨hv, habove, hm⟩

theorem fields_get?_cons_self (k : String) (v : Value) (m : Fields) : (Fields.cons k v m).get? k = some v := if_pos rfl

theorem fields_get?_cons_of_ne {j k : String} (h : j ≠ k) (v : Value) (m : Fields) : (Fields.cons k v m).get? j = m.get? j := if_neg h

/-- A name at or below what all the names of a canonical map are above is not in it. -/
theorem get?_eq_none_of_keyAbove {j k : String} {m : Fields} (hm : m.wf = true) (habove : m.keyAbove k = true) (hj : j ≤ k) :
    m.get? j = none := by
  match m with
  | .nil => rfl
  | .cons k' v m =>
    obtain ⟨-, habove', hm'⟩ := fields_wf_cons hm
    have hlt : j < k' := lt_of_le_of_lt hj (of_decide_eq_true habove)
    rw [fields_get?_cons_of_ne hlt.ne]
    exact get?_eq_none_of_keyAbove hm' habove' hlt.le

/-- R11: two canonical maps with the same value under every name are the same. -/
theorem fields_ext {m n : Fields} (hm : m.wf = true) (hn : n.wf = true) (h : ∀ k, m.get? k = n.get? k) : m = n := by
  match m, n with
  | .nil, .nil => rfl
  | .nil, .cons k v n =>
    have hk := h k
    rw [fields_get?_cons_self] at hk
    cases hk
  | .cons k v m, .nil =>
    have hk := h k
    rw [fields_get?_cons_self] at hk
    cases hk
  | .cons k v m, .cons k' v' n =>
    obtain ⟨-, hmk, hm'⟩ := fields_wf_cons hm
    obtain ⟨-, hnk, hn'⟩ := fields_wf_cons hn
    have hkey : k = k' := by
      rcases lt_trichotomy k k' with hlt | heq | hlt
      · have hk := h k
        rw [fields_get?_cons_self, fields_get?_cons_of_ne hlt.ne, get?_eq_none_of_keyAbove hn' hnk hlt.le] at hk
        cases hk
      · exact heq
      · have hk := h k'
        rw [fields_get?_cons_self, fields_get?_cons_of_ne hlt.ne, get?_eq_none_of_keyAbove hm' hmk hlt.le] at hk
        cases hk
    subst hkey
    have hvalue := h k
    rw [fields_get?_cons_self, fields_get?_cons_self, Option.some.injEq] at hvalue
    have htail : m = n := fields_ext hm' hn' fun j => by
      by_cases hj : j = k
      · rw [hj, get?_eq_none_of_keyAbove hm' hmk le_rfl, get?_eq_none_of_keyAbove hn' hnk le_rfl]
      · have hj' := h j
        rwa [fields_get?_cons_of_ne hj, fields_get?_cons_of_ne hj] at hj'
    rw [hvalue, htail]

/-! ## Network-address tags dropped (R258) -/

theorem keyAbove_untagged (k : String) (m : Fields) : m.untagged.keyAbove k = m.keyAbove k := by
  cases m <;> rfl

mutual

theorem wf_untagged {v : Value} (h : v.wf = true) : v.untagged.wf = true := by
  match v with
  | .int _ => rfl
  | .nwk _ => rfl
  | .eui _ => rfl
  | .bytes _ => rfl
  | .list vs => exact values_wf_untagged (vs := vs) h
  | .record m => exact fields_wf_untagged (m := m) h

theorem values_wf_untagged {vs : Values} (h : vs.wf = true) : vs.untagged.wf = true := by
  match vs with
  | .nil => rfl
  | .cons v vs =>
    rw [Values.wf, Bool.and_eq_true] at h
    obtain ⟨hv, hvs⟩ := h
    rw [Values.untagged, Values.wf, wf_untagged hv, values_wf_untagged hvs]
    rfl

theorem fields_wf_untagged {m : Fields} (h : m.wf = true) : m.untagged.wf = true := by
  match m with
  | .nil => rfl
  | .cons k v m =>
    obtain ⟨hv, habove, hm⟩ := fields_wf_cons h
    rw [Fields.untagged, Fields.wf, keyAbove_untagged, wf_untagged hv, habove, fields_wf_untagged hm]
    rfl

end

theorem get?_untagged (k : String) (m : Fields) : m.untagged.get? k = (m.get? k).map Value.untagged := by
  match m with
  | .nil => rfl
  | .cons k' v m =>
    rw [Fields.untagged, Fields.get?, Fields.get?, get?_untagged k m]
    split <;> rfl

theorem toList_untagged (vs : Values) : vs.untagged.toList = vs.toList.map Value.untagged := by
  match vs with
  | .nil => rfl
  | .cons v vs => rw [Values.untagged, Values.toList, Values.toList, List.map_cons, toList_untagged vs]

theorem values_toList_injective {vs ws : Values} (h : vs.toList = ws.toList) : vs = ws := by
  match vs, ws, h with
  | .nil, .nil, _ => rfl
  | .cons v vs, .cons w ws, h =>
    obtain ⟨hhead, htail⟩ := List.cons.inj h
    rw [hhead, values_toList_injective htail]

theorem eqv_iff (v w : Value) : v.eqv w = true ↔ v.untagged = w.untagged := beq_iff_eq

theorem kindNumber_untagged (v : Value) : kindNumber v.untagged = kindNumber v := by
  cases v <;> rfl

theorem eqv_list_iff (vs ws : Values) :
    (Value.list vs).eqv (.list ws) = true ↔ List.Forall₂ (fun v w => v.eqv w = true) vs.toList ws.toList := by
  have hlists : vs.untagged = ws.untagged ↔ vs.toList.map Value.untagged = ws.toList.map Value.untagged := by
    rw [← toList_untagged, ← toList_untagged]
    exact ⟨congrArg Values.toList, values_toList_injective⟩
  rw [eqv_iff, Value.untagged, Value.untagged, Value.list.injEq, hlists, ← List.forall₂_eq_eq_eq, List.forall₂_map_left_iff,
    List.forall₂_map_right_iff]
  simp only [eqv_iff]

theorem sameField_iff (a b : Option Value) : sameField a b ↔ a.map Value.untagged = b.map Value.untagged := by
  cases a <;> cases b <;> simp [sameField, eqv_iff]

theorem eqv_record_iff {m n : Fields} (hm : m.wf = true) (hn : n.wf = true) :
    (Value.record m).eqv (.record n) = true ↔ ∀ k, sameField (m.get? k) (n.get? k) := by
  rw [eqv_iff, Value.untagged, Value.untagged, Value.record.injEq]
  simp only [sameField_iff, ← get?_untagged]
  exact ⟨fun h k => by rw [h], fields_ext (fields_wf_untagged hm) (fields_wf_untagged hn)⟩

/-! ## Matching (R258) -/

theorem matcherHolds_iff (payload : Fields) {m : Fields} (hm : m.wf = true) :
    matcherHolds payload m = true ↔ ∀ k v, m.get? k = some v → ∃ v', payload.get? k = some v' ∧ v.eqv v' = true := by
  match m with
  | .nil => exact ⟨fun _ k v h => (Option.some_ne_none v h.symm).elim, fun _ => rfl⟩
  | .cons k v m =>
    obtain ⟨-, habove, hm'⟩ := fields_wf_cons hm
    have hhead : matcherHolds payload (.cons k v m) = ((payload.get? k).any v.eqv && matcherHolds payload m) := by
      rw [matcherHolds]
      cases payload.get? k <;> rfl
    rw [hhead, Bool.and_eq_true, Option.any_eq_true, matcherHolds_iff payload hm']
    constructor
    · rintro ⟨hk, hrest⟩ j u hj
      by_cases heq : j = k
      · subst heq
        rw [fields_get?_cons_self, Option.some.injEq] at hj
        exact hj ▸ hk
      · rw [fields_get?_cons_of_ne heq] at hj
        exact hrest j u hj
    · intro h
      refine ⟨h k v (fields_get?_cons_self ..), fun j u hj => h j u ?_⟩
      have hne : j ≠ k := by
        rintro rfl
        rw [get?_eq_none_of_keyAbove hm' habove le_rfl] at hj
        cases hj
      rwa [fields_get?_cons_of_ne hne]

/-- R258: a network address is the integer of its number, so an address alone has that number. -/
theorem ofNat_toNat_eq_iff (a b : BitVec 16) : (a.toNat : Int) = b.toNat ↔ a = b := by
  rw [Nat.cast_inj]
  exact ⟨BitVec.eq_of_toNat_eq, congrArg BitVec.toNat⟩

/-- Settles O49: dropping the tags makes matching equality, kind by kind. -/
theorem matchComparesKeyAndMatcher : Obligations.MatchComparesKeyAndMatcher := by
  refine ⟨?_, ?_, ?_, eqv_list_iff, fun m n hm hn => eqv_record_iff hm hn⟩
  · intro x o hmatcher
    rw [waiterMatches, Bool.and_eq_true, Bool.and_eq_true, Bool.and_eq_true, decide_eq_true_iff, decide_eq_true_iff, decide_eq_true_iff,
      matcherHolds_iff o.payload hmatcher, and_assoc, and_assoc]
  · intro a b n m x y t u
    simp only [eqv_iff, Value.untagged, Value.int.injEq, Value.bytes.injEq, Value.eui.injEq, ofNat_toNat_eq_iff, true_and, and_true]
    exact eq_comm
  · intro v w hkind
    rw [Bool.eq_false_iff]
    intro heqv
    rw [Ne, ← kindNumber_untagged v, (eqv_iff v w).1 heqv, kindNumber_untagged] at hkind
    exact hkind rfl

end Sys2Proof.Proofs
end

section
/-! PROOFS. The integer lists (spec/41_parameter_codec.md R162 to R165, R174, R175). A check, a write and a read of many elements are each said once, for
any element: the first element that fails decides the error. -/

namespace Sys2Proof.Proofs

open Sys2Proof Sys2Proof.Machine Sys2Proof.Claim

/-! ## Sequences of values -/

@[simp] theorem values_toList_ofList (vs : List Value) : (Values.ofList vs).toList = vs := by
  induction vs with
  | nil => rfl
  | cons v vs ih => rw [Values.ofList, Values.toList, ih]

theorem values_wf_ofList_iff (vs : List Value) : (Values.ofList vs).wf = true ↔ ∀ v ∈ vs, v.wf = true := by
  induction vs with
  | nil => simp [Values.ofList, Values.wf]
  | cons v vs ih => rw [Values.ofList, Values.wf, Bool.and_eq_true, ih, List.forall_mem_cons]

/-! ## Many elements checked, written and read -/

section Many

variable {α β : Type}

theorem checkAll_of_forall {f : α → Except Err β} {g : α → β} {l : List α} (h : ∀ a ∈ l, f a = .ok (g a)) :
    checkAll f l = .ok (l.map g) := by
  induction l with
  | nil => rfl
  | cons a l ih =>
    obtain ⟨ha, hl⟩ := List.forall_mem_cons.1 h
    simp only [checkAll, ha, ih hl, List.map_cons]

/-- The first element that fails its check decides. -/
theorem checkAll_of_split {f : α → Except Err β} {good rest : List α} {a : α} {e : Err} (hgood : ∀ g ∈ good, ∃ b, f g = .ok b)
    (ha : f a = .error e) : checkAll f (good ++ a :: rest) = .error e := by
  induction good with
  | nil => simp only [List.nil_append, checkAll, ha]
  | cons g good ih =>
    obtain ⟨⟨b, hb⟩, hrest⟩ := List.forall_mem_cons.1 hgood
    simp only [List.cons_append, checkAll, hb, ih hrest]

theorem writeAll_of_forall {f : α → List Byte → Except Err (List Byte)} {g : α → List Byte} {l : List α}
    (h : ∀ a ∈ l, ∀ w, f a w = .ok (w ++ g a)) (w : List Byte) : writeAll f l w = .ok (w ++ l.flatMap g) := by
  induction l generalizing w with
  | nil => rw [writeAll, List.flatMap_nil, List.append_nil]
  | cons a l ih =>
    obtain ⟨ha, hl⟩ := List.forall_mem_cons.1 h
    simp only [writeAll, ha, ih hl, List.flatMap_cons, List.append_assoc]

/-- The first element that fails its write decides. -/
theorem writeAll_of_split {f : α → List Byte → Except Err (List Byte)} {good rest : List α} {a : α} {e : Err}
    (hgood : ∀ g ∈ good, ∀ w, ∃ w', f g w = .ok w') (ha : ∀ w, f a w = .error e) (w : List Byte) :
    writeAll f (good ++ a :: rest) w = .error e := by
  induction good generalizing w with
  | nil => simp only [List.nil_append, writeAll, ha]
  | cons g good ih =>
    obtain ⟨hg, hrest⟩ := List.forall_mem_cons.1 hgood
    obtain ⟨w', hw'⟩ := hg w
    simp only [List.cons_append, writeAll, hw', ih hrest]

end Many

section Reads

variable {f : Nat → Except Err (Value × Nat)} {g : Nat → Value} {c k p : Nat}

/-- The places of the elements behind the first. -/
theorem place_succ (p k j : Nat) : p + k * (j + 1) = p + k + k * j := by
  rw [Nat.mul_succ, Nat.add_comm (k * j), Nat.add_assoc]

/-- Elements of `k` bytes each, all of them there. -/
theorem readMany_of_forall (h : ∀ j < c, f (p + k * j) = .ok (g j, p + k * (j + 1))) :
    readMany f c p = .ok (Values.ofList ((List.range c).map g), p + k * c) := by
  induction c generalizing p g with
  | zero => rfl
  | succ c ih =>
    have hhead := h 0 (Nat.succ_pos c)
    rw [Nat.mul_zero, Nat.add_zero, Nat.zero_add, Nat.mul_one] at hhead
    have htail := ih (p := p + k) (g := fun j => g (j + 1)) fun j hj => by
      have hnext := h (j + 1) (Nat.succ_lt_succ hj)
      rwa [place_succ, place_succ p k (j + 1)] at hnext
    simp only [readMany, hhead, htail, place_succ, List.range_succ_eq_map, List.map_cons, List.map_map, Values.ofList]
    rfl

/-- The first element that cannot be read decides. -/
theorem readMany_of_error {e : Nat} {x : Err} (he : e < c) (h : ∀ j < e, f (p + k * j) = .ok (g j, p + k * (j + 1)))
    (hx : f (p + k * e) = .error x) : readMany f c p = .error x := by
  induction e generalizing p g c with
  | zero =>
    obtain ⟨c, rfl⟩ := Nat.exists_eq_succ_of_ne_zero (Nat.ne_of_gt he)
    rw [Nat.mul_zero, Nat.add_zero] at hx
    simp only [readMany, hx]
  | succ e ih =>
    obtain ⟨c, rfl⟩ := Nat.exists_eq_succ_of_ne_zero (Nat.ne_of_gt (Nat.zero_lt_of_lt he))
    have hhead := h 0 (Nat.succ_pos e)
    rw [Nat.mul_zero, Nat.add_zero, Nat.zero_add, Nat.mul_one] at hhead
    rw [place_succ] at hx
    have htail := ih (g := fun j => g (j + 1)) (Nat.lt_of_succ_lt_succ he)
      (fun j hj => by
        have hnext := h (j + 1) (Nat.succ_lt_succ hj)
        rwa [place_succ, place_succ p k (j + 1)] at hnext) hx
    simp only [readMany, hhead, htail]

end Reads

/-! ## The integer lists written (R162, R164, R174) -/

theorem wf_of_number {nwk : Bool} {v : Value} {n : Int} (h : number nwk v = some n) : v.wf = true := by
  cases v with
  | int | nwk => rfl
  | eui | bytes | list | record => cases h

theorem intInRange_bytes_iff (k : Nat) (n : Int) : intInRange (8 * k) false n = true ↔ 0 ≤ n ∧ n < 256 ^ k := by
  have hpow : (2 : Int) ^ (8 * k) = 256 ^ k := by rw [pow_mul]; rfl
  rw [intInRange_unsigned_iff, hpow, Int.le_sub_one_iff]

theorem asList_list (tag : Tag) (vs : List Value) : asList tag (.list (Values.ofList vs)) = .ok vs := by
  rw [asList, values_toList_ofList]

theorem asList_of_wrongKind {v : Value} (h : ∀ vs, v ≠ .list vs) (tag : Tag) :
    asList tag v = .error (.schemaError (.wrongKind tag.toNat)) := by
  cases v with
  | list vs => exact absurd rfl (h vs)
  | int | nwk | eui | bytes | record => rfl

section WriteIntList

variable {el : Value → Except Err Int} {tag : Tag} {k : Nat} {nwk : Bool}
  (hel : ∀ v, el v = (number nwk v).elim (.error (.schemaError (.wrongKind tag.toNat))) .ok)

include hel

/-- R303: with all kinds right, the numbers are written. -/
theorem writeIntList_of_numbers {vs : List Value} {ns : List Int} (h : vs.map (number nwk) = ns.map some) (w : List Byte) :
    writeIntList el tag (8 * k) (.list (Values.ofList vs)) w = writeAll (writeInt (8 * k) false) ns w := by
  have hcheck : checkAll el vs = .ok ns := by
    induction vs generalizing ns with
    | nil =>
      obtain rfl := List.map_eq_nil_iff.1 h.symm
      rfl
    | cons v vs ih =>
      obtain ⟨n, ns, rfl, hn, hns⟩ := List.map_eq_cons_iff.1 h.symm
      have hv : el v = .ok n := by rw [hel, ← hn, Option.elim_some]
      simp only [checkAll, hv, ih hns.symm]
  simp only [writeIntList, asList_list, hcheck]

theorem writeIntList_of_wrongKind {vs : List Value} (h : none ∈ vs.map (number nwk)) (w : List Byte) :
    writeIntList el tag (8 * k) (.list (Values.ofList vs)) w = .error (.schemaError (.wrongKind tag.toNat)) := by
  obtain ⟨u, hu, hnone⟩ := List.mem_map.1 h
  have hfind : (vs.find? fun v => (number nwk v).isNone).isSome := List.find?_isSome.2 ⟨u, hu, by rw [hnone]; rfl⟩
  obtain ⟨v, hv⟩ := Option.isSome_iff_exists.1 hfind
  obtain ⟨hnone, good, rest, rfl, hgood⟩ := List.find?_eq_some_iff_append.1 hv
  have hcheck : checkAll el (good ++ v :: rest) = .error (.schemaError (.wrongKind tag.toNat)) := by
    refine checkAll_of_split (fun g hg => ?_) ?_
    · obtain ⟨n, hn⟩ := Option.isSome_iff_exists.1 (by simpa using hgood g hg)
      exact ⟨n, by rw [hel, hn, Option.elim_some]⟩
    · rw [hel, Option.isNone_iff_eq_none.1 hnone, Option.elim_none]
  simp only [writeIntList, asList_list, hcheck]

/-- R162, R164, R174: what an integer list is written as, from what it checks of an element. -/
theorem writesIntList_of_writeIntList {mk : Value → List Byte → Instr} {op : Byte}
    (hexec : ∀ v w s, exec (mk v w) s = .next (writeOp op v (writeIntList el tag (8 * k) v w) s)) :
    WritesIntList mk tag.toNat k nwk := by
  intro w s
  have hwf : ∀ {vs : List Value} {ns : List Int}, vs.map (number nwk) = ns.map some → (Value.list (Values.ofList vs)).wf = true := by
    intro vs ns h
    refine (values_wf_ofList_iff vs).2 fun v hv => ?_
    have hmem : number nwk v ∈ ns.map some := h ▸ List.mem_map_of_mem hv
    obtain ⟨n, -, hn⟩ := List.mem_map.1 hmem
    exact wf_of_number hn.symm
  have hwrite : ∀ n : Int, 0 ≤ n ∧ n < 256 ^ k → ∀ w, writeInt (8 * k) false n w = .ok (w ++ Claim.intBytes k n) :=
    fun n hn => writeInt_of_range ((intInRange_bytes_iff k n).2 hn)
  refine ⟨?_, ?_, ?_, ?_⟩
  · intro vs ns hnumbers hrange
    rw [hexec, writeIntList_of_numbers hel hnumbers, writeAll_of_forall fun n hn => hwrite n (hrange n hn),
      writeOp_ok (hwf hnumbers)]
  · intro vs ns ms n hnumbers hrange hout
    have hnot : ¬ intInRange (8 * k) false n = true := by
      rw [intInRange_bytes_iff]
      omega
    have herror := writeAll_of_split (rest := ms) (fun m hm w => ⟨_, hwrite m (hrange m hm) w⟩)
      (fun w => writeInt_of_not_range hnot w) w
    rw [hexec, writeIntList_of_numbers hel hnumbers, herror, writeOp_error (hwf hnumbers)]
  · intro vs hvs hnone
    rw [hexec, writeIntList_of_wrongKind hel hnone, writeOp_error (v := .list (Values.ofList vs)) hvs]
  · intro v hv hkind
    rw [hexec, writeIntList, asList_of_wrongKind hkind, writeOp_error hv]

end WriteIntList

/-- Settles O20: the three tags differ in the width and in whether an element can be a network address. -/
theorem integerListsWriteElements : Obligations.IntegerListsWriteElements :=
  ⟨writesIntList_of_writeIntList (asInt_eq .listUint8) fun _ _ _ => rfl,
    writesIntList_of_writeIntList (asIntOrNwk_eq .listUint16) fun _ _ _ => rfl,
    writesIntList_of_writeIntList (asIntOrNwk_eq .listAssocDev) fun _ _ _ => rfl⟩

/-! ## The integer lists read (R163, R165, R175) -/

theorem readIntTag_of_le {b : List Byte} {p k : Nat} (h : p + k ≤ b.length) :
    readIntTag (8 * k) false b p = .ok (.int (natOf (slice b p k)), p + k) := by
  rw [readIntTag, readInt_of_le h]
  rfl

theorem readIntTag_of_lt {b : List Byte} {p k : Nat} (h : b.length < p + k) :
    readIntTag (8 * k) false b p = .error (.bufferUnderrun p k) := by
  rw [readIntTag, readInt_of_lt h]

theorem readsCounted_of_readList {i : Instr} {b : List Byte} {p c k : Nat} {s : State} (hk : 0 < k)
    (hexec : exec i s = .next (readOp (readList (readIntTag (8 * k) false b) c p) s)) : ReadsCounted i b p c k s := by
  have hread : ∀ j, p + k * (j + 1) ≤ b.length →
      readIntTag (8 * k) false b (p + k * j) = .ok (.int (natOf (slice b (p + k * j) k)), p + k * (j + 1)) := by
    intro j hj
    rw [Nat.mul_succ, ← Nat.add_assoc] at hj ⊢
    exact readIntTag_of_le hj
  refine ⟨?_, ?_⟩
  · intro hall
    have hmany := readMany_of_forall (c := c) fun j hj => hread j (by
      have hplace : k * (j + 1) ≤ k * c := Nat.mul_le_mul_left k hj
      omega)
    rw [hexec, readList, hmany, readOp_ok]
  · intro hc hshort
    have he : (b.length - p) / k < c := Nat.div_lt_of_lt_mul (by
      have hpos : 0 < k * c := Nat.mul_pos hk (Nat.pos_of_ne_zero hc)
      omega)
    have hquot : k * ((b.length - p) / k) ≤ b.length - p := Nat.mul_div_le (b.length - p) k
    have hrest := Nat.lt_mul_div_succ (b.length - p) hk
    have hmany := readMany_of_error he (fun j hj => hread j (by
      have hplace : k * (j + 1) ≤ k * ((b.length - p) / k) := Nat.mul_le_mul_left k hj
      have hpos : 0 < k * (j + 1) := Nat.mul_pos hk j.succ_pos
      omega)) (readIntTag_of_lt (by
      rw [Nat.mul_succ] at hrest
      omega))
    rw [hexec, readList, hmany, readOp_error]

section ReadOptions

variable {o : ReadOpts} {tag : Tag}

theorem readCounted_of_length {c : Nat} (h : o.length = some c) (f : Nat → Except Err (Value × Nat)) (p : Nat) :
    readCounted tag f o p = readList f c p := by
  rw [readCounted, needLength, h]

theorem readCounted_of_missing (h : o.length = none) (f : Nat → Except Err (Value × Nat)) (p : Nat) :
    readCounted tag f o p = .error (.schemaError (.missingLength tag.toNat)) := by
  rw [readCounted, needLength, h]

theorem preadListAssocDev_of_options {cfg : Config} {c i : Nat} (hc : o.length = some c) (hi : o.startIndex = some i)
    (hmode : cfg.assocCount = .lengthMinusStart) (b : List Byte) (p : Nat) :
    preadListAssocDev cfg o b p = readList (readIntTag 16 false b) (c - i) p := by
  simp only [preadListAssocDev, hc, hi, assocCount, hmode]

theorem preadListAssocDev_of_missing (h : o.length = none ∨ o.startIndex = none) (cfg : Config) (b : List Byte) (p : Nat) :
    preadListAssocDev cfg o b p = .error (.schemaError (.missingLength 17)) := by
  rcases h with h | h
  · simp only [preadListAssocDev, h]
    rfl
  · simp only [preadListAssocDev, h]
    cases o.length <;> rfl

end ReadOptions

theorem exec_preadListUint8 (o : ReadOpts) (b : List Byte) (p : Nat) (s : State) :
    exec (.preadListUint8 o b p) s = .next (readOp (readCounted .listUint8 (readIntTag 8 false b) o p) s) := rfl

theorem exec_preadListUint16 (o : ReadOpts) (b : List Byte) (p : Nat) (s : State) :
    exec (.preadListUint16 o b p) s = .next (readOp (readCounted .listUint16 (readIntTag 16 false b) o p) s) := rfl

theorem exec_preadListAssocDev (o : ReadOpts) (b : List Byte) (p : Nat) (s : State) :
    exec (.preadListAssocDev o b p) s = .next (readOp (preadListAssocDev s.config o b p) s) := rfl

/-- Settles O21: the options give the count, and the elements are of one or of two bytes. -/
theorem integerListsReadElements : Obligations.IntegerListsReadElements := by
  intro o b p s
  refine ⟨?_, ?_, ?_, ?_, ?_, ?_⟩
  · intro c hc
    exact readsCounted_of_readList Nat.one_pos (by rw [exec_preadListUint8, readCounted_of_length hc])
  · intro c hc
    exact readsCounted_of_readList Nat.two_pos (by rw [exec_preadListUint16, readCounted_of_length hc])
  · intro c i hc hi hmode
    exact readsCounted_of_readList Nat.two_pos (by rw [exec_preadListAssocDev, preadListAssocDev_of_options hc hi hmode])
  · intro hmissing
    rw [exec_preadListUint8, readCounted_of_missing hmissing, readOp_error]
    rfl
  · intro hmissing
    rw [exec_preadListUint16, readCounted_of_missing hmissing, readOp_error]
    rfl
  · intro hmissing
    rw [exec_preadListAssocDev, preadListAssocDev_of_missing hmissing, readOp_error]

end Sys2Proof.Proofs
end

section
/-! PROOFS. The decode walk (spec/42_command_object.md R205). A read that succeeds has seen the bytes up to the place where it ends and no others: this
is said of each tag's read and then of the whole walk, so bytes behind the last field play no part, and a walk that uses up its bytes goes on at
their end whatever follows them. -/

namespace Sys2Proof.Proofs

open Sys2Proof Sys2Proof.Machine Sys2Proof.Claim

/-! ## Reads that see only the bytes up to their end -/

/-- A read moves forward, stays in the buffer, and does the same on every buffer with the same bytes up to its end. -/
def ReadsUpToEnd {α : Type} (r : List Byte → Nat → Except Err (α × Nat)) : Prop :=
  ∀ (buf : List Byte) (pos : Nat) (v : α) (q : Nat), r buf pos = .ok (v, q) →
    pos ≤ q ∧ (pos ≤ buf.length → q ≤ buf.length) ∧ ∀ buf' : List Byte, buf'.take q = buf.take q → r buf' pos = .ok (v, q)

section ReadsUpToEnd

variable {α β : Type}

theorem take_eq_of_le {buf buf' : List Byte} {p q : Nat} (h : buf'.take q = buf.take q) (hle : p ≤ q) : buf'.take p = buf.take p := by
  have hp := congrArg (List.take p) h
  rwa [List.take_take, List.take_take, Nat.min_eq_left hle] at hp

theorem readsUpToEnd_cursorRead (n : Nat) : ReadsUpToEnd (fun buf pos => cursorRead buf pos n) := by
  intro buf pos bytes q h
  obtain ⟨hle, rfl, rfl⟩ := cursorRead_ok h
  refine ⟨Nat.le_add_right pos n, fun _ => hle, fun buf' hsame => ?_⟩
  have hlength : pos + n ≤ buf'.length := by
    have htake := congrArg List.length hsame
    rw [List.length_take, List.length_take] at htake
    omega
  have hslice : slice buf' pos n = slice buf pos n := by
    have hdrop := congrArg (List.drop pos) hsame
    rwa [List.drop_take, List.drop_take, Nat.add_sub_cancel_left] at hdrop
  dsimp only
  rw [cursorRead_of_le hlength, hslice]
  rfl

/-- A read that makes its value of what another read gives. -/
theorem readsUpToEnd_of_iff {r : List Byte → Nat → Except Err (α × Nat)} {f : List Byte → Nat → Except Err (β × Nat)}
    (g : α → Option β) (hr : ReadsUpToEnd r)
    (h : ∀ buf pos v q, f buf pos = .ok (v, q) ↔ ∃ x, r buf pos = .ok (x, q) ∧ g x = some v) : ReadsUpToEnd f := by
  intro buf pos v q hf
  obtain ⟨x, hx, hv⟩ := (h buf pos v q).1 hf
  obtain ⟨hforward, hinside, hsame⟩ := hr buf pos x q hx
  exact ⟨hforward, hinside, fun buf' htake => (h buf' pos v q).2 ⟨x, hsame buf' htake, hv⟩⟩

/-- A read of the same bytes whose value is made of another's. -/
theorem readsUpToEnd_of_map {r : List Byte → Nat → Except Err (α × Nat)} {f : List Byte → Nat → Except Err (β × Nat)} (g : α → β)
    (hr : ReadsUpToEnd r) (h : ∀ buf pos, f buf pos = (r buf pos).map fun x => (g x.1, x.2)) : ReadsUpToEnd f := by
  refine readsUpToEnd_of_iff (fun x => some (g x)) hr fun buf pos v q => ?_
  rw [h]
  cases r buf pos with
  | error e => simp [Except.map]
  | ok x =>
    obtain ⟨x, p⟩ := x
    simp [Except.map, and_comm]

theorem readsUpToEnd_error (e : Err) : ReadsUpToEnd (fun _ _ => (.error e : Except Err (α × Nat))) := nofun

/-- A read and then another. -/
theorem readsUpToEnd_of_bind {r : List Byte → Nat → Except Err (α × Nat)} {h : α → List Byte → Nat → Except Err (β × Nat)}
    {f : List Byte → Nat → Except Err (β × Nat)} (hr : ReadsUpToEnd r) (hh : ∀ x, ReadsUpToEnd (h x))
    (hf : ∀ buf pos, f buf pos = (r buf pos).bind fun x => h x.1 buf x.2) : ReadsUpToEnd f := by
  intro buf pos v q hread
  rw [hf] at hread
  cases hfirst : r buf pos with
  | error e =>
    simp only [hfirst, Except.bind] at hread
    cases hread
  | ok x =>
    obtain ⟨x, p⟩ := x
    simp only [hfirst, Except.bind] at hread
    obtain ⟨hforward, hinside, hsame⟩ := hr buf pos x p hfirst
    obtain ⟨hforward', hinside', hsame'⟩ := hh x buf p v q hread
    refine ⟨hforward.trans hforward', fun hpos => hinside' (hinside hpos), fun buf' htake => ?_⟩
    have hfirst' := hsame buf' (take_eq_of_le htake hforward')
    rw [hf]
    simp only [hfirst', Except.bind]
    exact hsame' buf' htake

theorem readsUpToEnd_ok (v : α) : ReadsUpToEnd (fun _ pos => .ok (v, pos)) := by
  intro buf pos v' q h
  cases h
  exact ⟨le_rfl, id, fun _ _ => rfl⟩

end ReadsUpToEnd

/-! ## The reads of the tags (R141 to R181) -/

theorem readsUpToEnd_readInt (bits : Nat) (signed : Bool) : ReadsUpToEnd (readInt bits signed) := by
  refine readsUpToEnd_of_map (intOfBytes bits signed) (readsUpToEnd_cursorRead (bits / 8)) fun buf pos => ?_
  unfold readInt
  cases cursorRead buf pos (bits / 8) <;> rfl

theorem readsUpToEnd_readIntTag (bits : Nat) (signed : Bool) : ReadsUpToEnd (readIntTag bits signed) := by
  refine readsUpToEnd_of_map .int (readsUpToEnd_readInt bits signed) fun buf pos => ?_
  unfold readIntTag
  cases readInt bits signed buf pos <;> rfl

theorem readsUpToEnd_preadUint16 (o : ReadOpts) : ReadsUpToEnd (preadUint16 o) := by
  refine readsUpToEnd_of_map (fun n => if o.isAddress then .nwk (BitVec.ofInt 16 n) else .int n) (readsUpToEnd_readInt 16 false)
    fun buf pos => ?_
  unfold preadUint16
  cases readInt 16 false buf pos <;> rfl

theorem readsUpToEnd_preadIeeeaddr : ReadsUpToEnd preadIeeeaddr := by
  refine readsUpToEnd_of_iff (fun s => (euiOfBytes s).map .eui) (readsUpToEnd_cursorRead 8) fun buf pos v q => ?_
  unfold preadIeeeaddr
  cases cursorRead buf pos 8 with
  | error e => simp
  | ok x =>
    obtain ⟨s, p⟩ := x
    cases heui : euiOfBytes s <;> simp [heui, and_comm]

theorem readsUpToEnd_readBytesTag (n : Nat) : ReadsUpToEnd (readBytesTag n) := by
  refine readsUpToEnd_of_map .bytes (readsUpToEnd_cursorRead n) fun buf pos => ?_
  unfold readBytesTag
  cases cursorRead buf pos n <;> rfl

theorem readsUpToEnd_preadBuffer (o : ReadOpts) : ReadsUpToEnd (preadBuffer o) := by
  cases hlength : o.length with
  | none =>
    have hread : preadBuffer o = fun _ _ => .error (.schemaError (.missingLength 4)) := funext₂ fun b p => preadBuffer_of_none hlength b p
    exact hread ▸ readsUpToEnd_error _
  | some n =>
    have hread : preadBuffer o = readBytesTag n := funext₂ fun b p => preadBuffer_of_some hlength b p
    exact hread ▸ readsUpToEnd_readBytesTag n

section Lists

variable {f : List Byte → Nat → Except Err (Value × Nat)} (hf : ReadsUpToEnd f)

include hf

theorem readsUpToEnd_readMany (k : Nat) : ReadsUpToEnd (fun buf pos => readMany (f buf) k pos) := by
  induction k with
  | zero => exact readsUpToEnd_ok Values.nil
  | succ k ih =>
    have hrest (v : Value) : ReadsUpToEnd (fun buf pos => (readMany (f buf) k pos).map fun x => (Values.cons v x.1, x.2)) :=
      readsUpToEnd_of_map (Values.cons v) ih fun _ _ => rfl
    refine readsUpToEnd_of_bind hf hrest fun buf pos => ?_
    rw [readMany]
    cases f buf pos with
    | error e => rfl
    | ok x =>
      dsimp only [Except.bind]
      cases readMany (f buf) k x.2 <;> rfl

theorem readsUpToEnd_readList (k : Nat) : ReadsUpToEnd (fun buf pos => readList (f buf) k pos) := by
  refine readsUpToEnd_of_map .list (readsUpToEnd_readMany hf k) fun buf pos => ?_
  unfold readList
  cases readMany (f buf) k pos <;> rfl

theorem readsUpToEnd_readCounted (tag : Tag) (o : ReadOpts) : ReadsUpToEnd (fun buf pos => readCounted tag (f buf) o pos) := by
  cases hlength : o.length with
  | none =>
    simp only [readCounted_of_missing hlength]
    exact readsUpToEnd_error _
  | some k =>
    simp only [readCounted_of_length hlength]
    exact readsUpToEnd_readList hf k

end Lists

theorem readsUpToEnd_readItem (i : LayoutItem) (m : Fields) : ReadsUpToEnd (fun buf pos => readItem buf pos m i) := by
  cases i with
  | u8 name =>
    refine readsUpToEnd_of_map (fun n => m.set name (.int n)) (readsUpToEnd_readInt 8 false) fun buf pos => ?_
    dsimp only [readItem]
    cases readInt 8 false buf pos <;> rfl
  | u16 name =>
    refine readsUpToEnd_of_map (fun n => m.set name (.int n)) (readsUpToEnd_readInt 16 false) fun buf pos => ?_
    dsimp only [readItem]
    cases readInt 16 false buf pos <;> rfl
  | eui name =>
    refine readsUpToEnd_of_iff (fun s => (euiOfBytes s).map fun t => m.set name (.eui t)) (readsUpToEnd_cursorRead 8) fun buf pos v q => ?_
    dsimp only [readItem]
    cases cursorRead buf pos 8 with
    | error e => simp
    | ok x =>
      obtain ⟨s, p⟩ := x
      cases heui : euiOfBytes s <;> simp [heui, and_comm]
  | packed fs =>
    refine readsUpToEnd_of_map (fun s => unpackByte (s.headD 0) fs m) (readsUpToEnd_cursorRead 1) fun buf pos => ?_
    dsimp only [readItem]
    cases cursorRead buf pos 1 <;> rfl

theorem readsUpToEnd_readItems (l : Layout) (m : Fields) : ReadsUpToEnd (fun buf pos => readItems buf l pos m) := by
  induction l generalizing m with
  | nil => exact readsUpToEnd_ok m
  | cons i l ih =>
    refine readsUpToEnd_of_bind (readsUpToEnd_readItem i m) ih fun buf pos => ?_
    dsimp only [readItems]
    cases readItem buf pos m i <;> rfl

theorem readsUpToEnd_readRecord (l : Layout) : ReadsUpToEnd (readRecord l) := by
  refine readsUpToEnd_of_map .record (readsUpToEnd_readItems l .nil) fun buf pos => ?_
  dsimp only [readRecord]
  cases readItems buf l pos .nil <;> rfl

theorem readsUpToEnd_preadListAssocDev (cfg : Config) (o : ReadOpts) : ReadsUpToEnd (preadListAssocDev cfg o) := by
  have hread (c : Nat) := readsUpToEnd_readList (readsUpToEnd_readIntTag 16 false) c
  unfold preadListAssocDev
  cases o.length with
  | none => exact readsUpToEnd_error _
  | some n =>
    cases o.startIndex with
    | none => exact readsUpToEnd_error _
    | some i => exact hread _

theorem readsUpToEnd_preadTag (cfg : Config) (t : Tag) (o : ReadOpts) : ReadsUpToEnd (preadTag cfg t o) := by
  cases t with
  | uint8 => exact readsUpToEnd_readIntTag 8 false
  | uint16 => exact readsUpToEnd_preadUint16 o
  | uint32 => exact readsUpToEnd_readIntTag 32 false
  | ieeeaddr => exact readsUpToEnd_preadIeeeaddr
  | buffer => exact readsUpToEnd_preadBuffer o
  | buffer8 => exact readsUpToEnd_readBytesTag 8
  | buffer16 => exact readsUpToEnd_readBytesTag 16
  | buffer18 => exact readsUpToEnd_readBytesTag 18
  | buffer32 => exact readsUpToEnd_readBytesTag 32
  | buffer42 => exact readsUpToEnd_readBytesTag 42
  | buffer100 => exact readsUpToEnd_readBytesTag 100
  | listUint8 => exact readsUpToEnd_readCounted (readsUpToEnd_readIntTag 8 false) .listUint8 o
  | listUint16 => exact readsUpToEnd_readCounted (readsUpToEnd_readIntTag 16 false) .listUint16 o
  | listRoutingTable => exact readsUpToEnd_readCounted (readsUpToEnd_readRecord cfg.layoutRouting) .listRoutingTable o
  | listBindTable => exact readsUpToEnd_readCounted (readsUpToEnd_readRecord cfg.layoutBind) .listBindTable o
  | listNeighborLqi => exact readsUpToEnd_readCounted (readsUpToEnd_readRecord cfg.layoutNeighbor) .listNeighborLqi o
  | listNetwork => exact readsUpToEnd_readCounted (readsUpToEnd_readRecord cfg.layoutNetwork) .listNetwork o
  | listAssocDev => exact readsUpToEnd_preadListAssocDev cfg o
  | int8 => exact readsUpToEnd_readIntTag 8 true
  | int16 => exact readsUpToEnd_readIntTag 16 true
  | int32 => exact readsUpToEnd_readIntTag 32 true

theorem readsUpToEnd_pread (cfg : Config) (tag : Nat) (o : ReadOpts) : ReadsUpToEnd (pread cfg tag o) := by
  unfold pread
  cases Tag.ofNat? tag with
  | none => exact readsUpToEnd_error _
  | some t => exact readsUpToEnd_preadTag cfg t o

/-! ## The walk and where it ends (R205) -/

/-- The decode walk, with the place where its last field ends. -/
def readWalkTo (cfg : Config) (sch before : Schema) (result : Fields) (bytes : List Byte) (pos : Nat) : Except Err (Fields × Nat) :=
  match sch with
  | [] => .ok (result, pos)
  | p :: rest =>
    (lengthSource before p).bind fun j =>
      (pread cfg p.typeTag (threadedOpts before result p j) bytes pos).bind fun x =>
        readWalkTo cfg rest (before ++ [p]) (result.set p.name x.1) bytes x.2

theorem readWalk_cons (cfg : Config) (bytes : List Byte) (p : ParameterSpec) (rest before : Schema) (pos : Nat) (result : Fields) :
    readWalk cfg bytes (p :: rest) before pos result =
      (lengthSource before p).bind fun j =>
        (pread cfg p.typeTag (threadedOpts before result p j) bytes pos).bind fun x =>
          readWalk cfg bytes rest (before ++ [p]) x.2 (result.set p.name x.1) := by
  rw [readWalk]
  cases lengthSource before p with
  | error e => rfl
  | ok j =>
    dsimp only [Except.bind]
    cases pread cfg p.typeTag (threadedOpts before result p j) bytes pos <;> rfl

/-- A walk over two schemas goes on with the second where the first ends. -/
theorem readWalk_append (cfg : Config) (bytes : List Byte) (a b before : Schema) (pos : Nat) (result : Fields) :
    readWalk cfg bytes (a ++ b) before pos result =
      (readWalkTo cfg a before result bytes pos).bind fun x => readWalk cfg bytes b (before ++ a) x.2 x.1 := by
  induction a generalizing before pos result with
  | nil =>
    rw [List.append_nil]
    rfl
  | cons p a ih =>
    rw [List.cons_append, readWalk_cons, readWalkTo]
    cases lengthSource before p with
    | error e => rfl
    | ok j =>
      dsimp only [Except.bind]
      cases pread cfg p.typeTag (threadedOpts before result p j) bytes pos with
      | error e => rfl
      | ok x =>
        have hrest := ih (before ++ [p]) x.2 (result.set p.name x.1)
        rwa [List.append_assoc, List.singleton_append] at hrest

theorem readsUpToEnd_readWalkTo (cfg : Config) (sch before : Schema) (result : Fields) :
    ReadsUpToEnd (readWalkTo cfg sch before result) := by
  induction sch generalizing before result with
  | nil => exact readsUpToEnd_ok result
  | cons p rest ih =>
    have hwalk : readWalkTo cfg (p :: rest) before result = fun bytes pos =>
        (lengthSource before p).bind fun j =>
          (pread cfg p.typeTag (threadedOpts before result p j) bytes pos).bind fun x =>
            readWalkTo cfg rest (before ++ [p]) (result.set p.name x.1) bytes x.2 := rfl
    rw [hwalk]
    cases lengthSource before p with
    | error e => exact readsUpToEnd_error e
    | ok j =>
      exact readsUpToEnd_of_bind (readsUpToEnd_pread cfg p.typeTag (threadedOpts before result p j))
        (fun v => ih (before ++ [p]) (result.set p.name v)) fun _ _ => rfl

theorem readSchema_append (cfg : Config) (bytes : List Byte) (a b : Schema) :
    readSchema cfg (a ++ b) bytes = (readWalkTo cfg a [] .nil bytes 0).bind fun x => readWalk cfg bytes b a x.2 x.1 :=
  readWalk_append cfg bytes a b [] 0 .nil

theorem readSchema_eq_ok_iff (cfg : Config) (sch : Schema) (bytes : List Byte) (m : Fields) :
    readSchema cfg sch bytes = .ok m ↔ ∃ q, readWalkTo cfg sch [] .nil bytes 0 = .ok (m, q) := by
  have happend := readSchema_append cfg bytes sch []
  rw [List.append_nil] at happend
  rw [happend]
  cases readWalkTo cfg sch [] .nil bytes 0 with
  | error e => simp [Except.bind]
  | ok x =>
    obtain ⟨r, q⟩ := x
    simp [Except.bind, readWalk]

section Ends

variable {cfg : Config} {sch : Schema} {bytes : List Byte} {m : Fields}

/-- R205: bytes after the last field are not looked at. -/
theorem readSchema_append_bytes (h : readSchema cfg sch bytes = .ok m) (extra : List Byte) :
    readSchema cfg sch (bytes ++ extra) = .ok m := by
  obtain ⟨q, hwalk⟩ := (readSchema_eq_ok_iff ..).1 h
  obtain ⟨-, hinside, hsame⟩ := readsUpToEnd_readWalkTo cfg sch [] .nil bytes 0 m q hwalk
  exact (readSchema_eq_ok_iff ..).2 ⟨q, hsame _ (List.take_append_of_le_length (hinside (Nat.zero_le _)))⟩

/-- A walk that fails on every shorter piece of its bytes ends at their end, and does so whatever follows them. -/
theorem readWalkTo_of_minimal (h : readSchema cfg sch bytes = .ok m)
    (hminimal : ∀ k < bytes.length, readSchema cfg sch (bytes.take k) ≠ .ok m) (tail : List Byte) :
    readWalkTo cfg sch [] .nil (bytes ++ tail) 0 = .ok (m, bytes.length) := by
  obtain ⟨q, hwalk⟩ := (readSchema_eq_ok_iff ..).1 h
  obtain ⟨-, hinside, hsame⟩ := readsUpToEnd_readWalkTo cfg sch [] .nil bytes 0 m q hwalk
  have hle : q ≤ bytes.length := hinside (Nat.zero_le _)
  have hend : q = bytes.length := by
    by_contra hne
    refine hminimal q (by omega) ((readSchema_eq_ok_iff ..).2 ⟨q, hsame _ ?_⟩)
    rw [List.take_take, Nat.min_self]
  subst hend
  exact hsame _ (List.take_append_of_le_length le_rfl)

end Ends

/-! ## The options threaded (R205) -/

section Threaded

variable {before : Schema} {p : ParameterSpec} {m : Fields}

theorem priorInt_of_get? {j : Nat} {q : ParameterSpec} (h : before[j]? = some q) : priorInt before m j = naturalAt m q.name := by
  simp only [priorInt, h, naturalAt]
  cases m.get? q.name with
  | none => rfl
  | some v => cases v <;> rfl

theorem lengthSource_of_named {older newer : Schema} {source : ParameterSpec}
    (hnodup : ((older ++ source :: newer).map (·.name)).Nodup) (hname : p.derivesLengthFrom = some source.name) :
    lengthSource (older ++ source :: newer) p = .ok (some older.length) := by
  have hfresh : ∀ q ∈ older, q.name ≠ source.name := by
    rw [List.map_append, List.nodup_append] at hnodup
    obtain ⟨-, -, hdisjoint⟩ := hnodup
    exact fun q hq => hdisjoint _ (List.mem_map_of_mem hq) _ (by simp)
  have hfind : (older ++ source :: newer).findIdx? (fun q => q.name == source.name) = some older.length := by
    have holder : older.findIdx? (fun q => q.name == source.name) = none :=
      List.findIdx?_eq_none_iff.2 fun q hq => by simpa using hfresh q hq
    simp [List.findIdx?_append, holder, List.findIdx?_cons]
  simp only [lengthSource, hname, hfind]

theorem lengthSource_of_last {older : Schema} {source : ParameterSpec} (hname : p.derivesLengthFrom = none) :
    lengthSource (older ++ [source]) p = .ok (some older.length) := by
  simp [lengthSource, hname]

theorem lengthSource_of_badReference {n : String} (hname : p.derivesLengthFrom = some n) (habsent : n ∉ before.map (·.name)) :
    lengthSource before p = .error (.schemaError (.badReference p.name)) := by
  have hfind : before.findIdx? (fun q => q.name == n) = none :=
    List.findIdx?_eq_none_iff.2 fun q hq => by
      simpa using fun heq : q.name = n => habsent (heq ▸ List.mem_map_of_mem hq)
  simp only [lengthSource, hname, hfind]

/-- The value before the source is that of the last of the fields before it. -/
theorem threadedOpts_startIndex (older newer : Schema) (source : ParameterSpec) :
    (threadedOpts (older ++ source :: newer) m p (some older.length)).startIndex =
      older.getLast?.bind fun q => naturalAt m q.name := by
  rcases List.eq_nil_or_concat' older with rfl | ⟨oldest, last, rfl⟩
  · rfl
  · have hlast : (oldest ++ [last] ++ source :: newer)[oldest.length]? = some last := by simp
    have hindex : (oldest ++ [last]).length = oldest.length + 1 := List.length_append
    simp only [hindex, threadedOpts, priorInt_of_get? hlast, List.getLast?_concat, Option.bind_some]

/-- R205: the model threads the options that the claim describes. -/
theorem exists_threadedOpts_eq {o : ReadOpts} (hnodup : (before.map (·.name)).Nodup) (h : threaded before p m o) :
    ∃ j, lengthSource before p = .ok j ∧ threadedOpts before m p j = o := by
  obtain ⟨length, startIndex, isAddress⟩ := o
  obtain ⟨rfl, ⟨rfl, hname, rfl, rfl⟩ | ⟨older, source, newer, rfl, hsource, rfl, rfl⟩⟩ := h
  · exact ⟨none, by simp [lengthSource, hname], rfl⟩
  · have hj : lengthSource (older ++ source :: newer) p = .ok (some older.length) := by
      obtain hname | ⟨hname, rfl⟩ := hsource
      · exact lengthSource_of_named hnodup hname
      · exact lengthSource_of_last hname
    have hget : (older ++ source :: newer)[older.length]? = some source := by simp
    refine ⟨some older.length, hj, ?_⟩
    rw [← threadedOpts_startIndex older newer source (p := p), ← priorInt_of_get? hget]
    rfl

end Threaded

/-! ## PREAD on the port (R131) -/

/-- R131: the instruction of a tag's read runs the codec's read of that tag. -/
theorem exec_readInstr (t : Tag) (o : ReadOpts) (b : List Byte) (p : Nat) (s : State) :
    exec (readInstr t o b p) s = .next (readOp (preadTag s.config t o b p) s) := by
  cases t <;> rfl

/-- R83, R131: a read word presented answers as the codec's read of its tag number, whether or not the tag has a rule. -/
theorem step_read {tag : Nat} (htag : tag < 32) (o : ReadOpts) (b : List Byte) (pos : Nat) (s : State) :
    step (withPort [.op .caller (BitVec.ofNat 8 (0x40 + tag)) [.opts o, .bytes b, .num pos]] s) =
      .next (readOp (pread s.config tag o b pos) (withPort [] s)) := by
  have hword : (BitVec.ofNat 8 (0x40 + tag)).toNat = 0x40 + tag := by
    rw [BitVec.toNat_ofNat]
    omega
  have hfunction : opFunction (BitVec.ofNat 8 (0x40 + tag)) = tag := by
    rw [opFunction, hword]
    omega
  have hdecode := decode_of_read (op := BitVec.ofNat 8 (0x40 + tag)) (by omega) (by omega) .caller [.opts o, .bytes b, .num pos]
  rw [decodeRead, hfunction] at hdecode
  cases hrule : Tag.ofNat? tag with
  | some t =>
    simp only [hrule] at hdecode
    rw [step_of_decode_ok hdecode, exec_readInstr]
    simp only [pread, hrule]
  | none =>
    simp only [hrule] at hdecode
    rw [step_of_decode_error hdecode]
    simp only [pread, hrule]
    rfl

theorem readReturns_ok_iff {p : ParameterSpec} (htag : p.typeTag < 32) (o : ReadOpts) (b : List Byte) (pos : Nat) (v : Value) (q : Nat)
    (s : State) : readReturns s p o b pos (.ok (.read v q)) ↔ pread s.config p.typeTag o b pos = .ok (v, q) := by
  rw [readReturns, step_read htag, Host.Outcome.next.injEq, readOp, answer_eq_gives_iff]
  cases pread s.config p.typeTag o b pos <;> simp [Except.map, Prod.ext_iff]

theorem readReturns_err_iff {p : ParameterSpec} (htag : p.typeTag < 32) (o : ReadOpts) (b : List Byte) (pos : Nat) (x : Err)
    (s : State) : readReturns s p o b pos (.err x) ↔ pread s.config p.typeTag o b pos = .error x := by
  rw [readReturns, step_read htag, Host.Outcome.next.injEq, readOp, answer_eq_fails_iff]
  cases pread s.config p.typeTag o b pos <;> simp [Except.map]

/-- Settles O33: the walk of the fields before ends where their bytes do, so the next field is read there, with the options that they give it. -/
theorem decodeWalkThreadsLengths : Obligations.DecodeWalkThreadsLengths := by
  refine ⟨fun cfg sch bytes extra m h => readSchema_append_bytes h extra, fun _ _ => rfl, ?_⟩
  intro s before p m bytes tail hnodup hbefore hminimal
  have hwalk := readWalkTo_of_minimal hbefore hminimal tail
  have hnext (after : Schema) : readSchema s.config (before ++ p :: after) (bytes ++ tail) =
      readWalk s.config (bytes ++ tail) (p :: after) before bytes.length m := by
    rw [readSchema_append, hwalk]
    rfl
  refine ⟨?_, ?_⟩
  · intro o htag hthreaded
    have hnames : (before.map (·.name)).Nodup := by
      rw [List.map_append] at hnodup
      exact hnodup.of_append_left
    obtain ⟨j, hsource, rfl⟩ := exists_threadedOpts_eq hnames hthreaded
    refine ⟨?_, ?_⟩
    · intro v q hread
      rw [readReturns_ok_iff htag] at hread
      refine ⟨m.set p.name v, ?_, Fields.get?_set_self .., fun k hk => Fields.get?_set_of_ne hk ..⟩
      rw [hnext, readWalk_cons, hsource]
      simp only [Except.bind, hread, readWalk]
    · intro x after hread
      rw [readReturns_err_iff htag] at hread
      rw [hnext, readWalk_cons, hsource]
      simp only [Except.bind, hread]
  · intro n after hname habsent
    rw [hnext, readWalk_cons, lengthSource_of_badReference hname habsent]
    rfl

end Sys2Proof.Proofs
end

section
/-! PROOFS. What is written is read back (spec/41_parameter_codec.md R133, spec/42_command_object.md R205, R206): an integer in its range from its bytes,
a field that needs no length at the place where it was written, and so field by field a whole payload. -/

namespace Sys2Proof.Proofs

open Sys2Proof Sys2Proof.Machine Sys2Proof.Claim

/-! ## Integers (R133) -/

@[simp] theorem length_intBytes (k : Nat) (n : Int) : (Claim.intBytes k n).length = k := by
  rw [Claim.intBytes, List.length_map, List.length_range]

theorem leValue_leBytes (k v : Nat) : leValue (leBytes k v) = v % 256 ^ k := by
  induction k generalizing v with
  | zero => rw [pow_zero, Nat.mod_one]; rfl
  | succ k ih =>
    have hlow : (BitVec.ofNat 8 v).toNat = v % 256 := BitVec.toNat_ofNat v 8
    rw [leBytes, leValue, ih, hlow, pow_succ', Nat.mod_mul]

/-- The bytes of an integer stand for it reduced to their width. -/
theorem natOf_intBytes (k : Nat) (n : Int) : (natOf (Claim.intBytes k n) : Int) = n % 256 ^ k := by
  have hnonneg : 0 ≤ n % 256 ^ k := Int.emod_nonneg n (by positivity)
  have hlt : n % 256 ^ k < 256 ^ k := Int.emod_lt_of_pos n (by positivity)
  have hsmall : (n % 256 ^ k).toNat < 256 ^ k := by
    zify
    rwa [Int.toNat_of_nonneg hnonneg]
  rw [natOf_eq_leValue, ← leBytes_emod, leValue_leBytes, Nat.mod_eq_of_lt hsmall, Int.toNat_of_nonneg hnonneg]

/-- R133: an integer in its range is what its bytes stand for. -/
theorem intOf_intBytes {k : Nat} (hk : 0 < k) {signed : Bool} {n : Int} (h : intInRange (8 * k) signed n = true) :
    intOf signed (Claim.intBytes k n) = n := by
  cases signed with
  | false =>
    obtain ⟨hlo, hhi⟩ := (intInRange_bytes_iff k n).1 h
    have hvalue : intOf false (Claim.intBytes k n) = natOf (Claim.intBytes k n) := rfl
    rw [hvalue, natOf_intBytes, Int.emod_eq_of_lt hlo hhi]
  | true =>
    obtain ⟨hlo, hhi⟩ := (intInRange_signed_iff (8 * k) n).1 h
    have hvalue : intOf true (Claim.intBytes k n) =
        (BitVec.ofNat (8 * (Claim.intBytes k n).length) (natOf (Claim.intBytes k n))).toInt := rfl
    have hbits : BitVec.ofNat (8 * k) (natOf (Claim.intBytes k n)) = BitVec.ofInt (8 * k) n := by
      have hpow : (256 : Int) ^ k = ((2 ^ (8 * k) : Nat) : Int) := by rw [pow_mul]; push_cast; rfl
      rw [← BitVec.ofInt_natCast, natOf_intBytes, hpow]
      apply BitVec.eq_of_toNat_eq
      rw [BitVec.toNat_ofInt, BitVec.toNat_ofInt, Int.emod_emod]
    rw [hvalue, length_intBytes, hbits, BitVec.toInt_ofInt_eq_self (by omega) (by exact_mod_cast hlo) (by omega)]

theorem readInt_intBytes {k : Nat} (hk : 0 < k) {signed : Bool} {n : Int} (h : intInRange (8 * k) signed n = true)
    (w tail : List Byte) :
    readInt (8 * k) signed (w ++ Claim.intBytes k n ++ tail) w.length = .ok (n, w.length + k) := by
  have hslice := slice_append w (Claim.intBytes k n) tail
  rw [length_intBytes] at hslice
  rw [readInt_of_le (by simp), hslice, intOf_intBytes hk h]

theorem writeInt_ok {k : Nat} {signed : Bool} {n : Int} {w w' : List Byte} (h : writeInt (8 * k) signed n w = .ok w') :
    intInRange (8 * k) signed n = true ∧ w' = w ++ Claim.intBytes k n := by
  by_cases hrange : intInRange (8 * k) signed n = true
  · rw [writeInt_of_range hrange, Except.ok.injEq] at h
    exact ⟨hrange, h.symm⟩
  · rw [writeInt_of_not_range hrange] at h
    cases h

/-! ## Plain fields (R205, R206) -/

/-- The bytes `x` are read back as `v` wherever they stand, with any length options. -/
def ReadsBack (cfg : Config) (p : ParameterSpec) (v : Value) (x : List Byte) : Prop :=
  ∀ (o : ReadOpts) (w tail : List Byte), o.isAddress = p.isAddress →
    pread cfg p.typeTag o (w ++ x ++ tail) w.length = .ok (v, w.length + x.length)

/-- What a write of the field's tag appends is read back. -/
def WritesReadBack (cfg : Config) (p : ParameterSpec) (v : Value) : Prop :=
  ∀ w w' : List Byte, pwrite cfg p.typeTag v w = .ok w' → ∃ x, w' = w ++ x ∧ ReadsBack cfg p v x

section Plain

variable {cfg : Config} {p : ParameterSpec} {k : Nat} {signed : Bool}

theorem writesReadBack_of_readIntTag {n : Int} (hk : 0 < k)
    (hwrite : ∀ w, pwrite cfg p.typeTag (.int n) w = writeInt (8 * k) signed n w)
    (hread : ∀ o, pread cfg p.typeTag o = readIntTag (8 * k) signed) : WritesReadBack cfg p (.int n) := by
  intro w w' h
  rw [hwrite] at h
  obtain ⟨hrange, rfl⟩ := writeInt_ok h
  refine ⟨_, rfl, fun o w tail _ => ?_⟩
  rw [hread, readIntTag, readInt_intBytes hk hrange, length_intBytes]

theorem writesReadBack_uint16 {n : Int} {v : Value} (htag : p.typeTag = 1)
    (hwrite : ∀ w, pwriteUint16 v w = writeInt (8 * 2) false n w)
    (hvalue : (if p.isAddress then .nwk (BitVec.ofInt 16 n) else .int n) = v) : WritesReadBack cfg p v := by
  intro w w' h
  have hpwrite : pwrite cfg p.typeTag v w = pwriteUint16 v w := by rw [htag]; rfl
  rw [hpwrite, hwrite] at h
  obtain ⟨hrange, rfl⟩ := writeInt_ok h
  refine ⟨_, rfl, fun o w tail haddress => ?_⟩
  have hpread : pread cfg p.typeTag o = preadUint16 o := by rw [htag]; rfl
  have hint := readInt_intBytes Nat.two_pos hrange w tail
  simp only [hpread, preadUint16, hint, haddress, length_intBytes, hvalue]

/-- R39, R205: a plain field is read back, whatever its tag. -/
theorem writesReadBack_of_plainField {v : Value} (h : plainField p v = true) : WritesReadBack cfg p v := by
  obtain ⟨name, tag, source, address⟩ := p
  cases v with
  | int n =>
    simp only [plainField, Bool.and_eq_true, Bool.or_eq_true, List.contains_iff_mem, List.mem_cons, List.not_mem_nil, or_false, beq_iff_eq,
      Bool.not_eq_true'] at h
    obtain ⟨-, (rfl | rfl | rfl | rfl | rfl) | ⟨rfl, rfl⟩⟩ := h
    · exact writesReadBack_of_readIntTag (k := 1) Nat.one_pos (fun _ => rfl) fun _ => rfl
    · exact writesReadBack_of_readIntTag (k := 4) (by decide) (fun _ => rfl) fun _ => rfl
    · exact writesReadBack_of_readIntTag (k := 1) Nat.one_pos (fun _ => rfl) fun _ => rfl
    · exact writesReadBack_of_readIntTag (k := 2) Nat.two_pos (fun _ => rfl) fun _ => rfl
    · exact writesReadBack_of_readIntTag (k := 4) (by decide) (fun _ => rfl) fun _ => rfl
    · exact writesReadBack_uint16 (n := n) rfl (fun _ => rfl) rfl
  | nwk a =>
    simp only [plainField, Bool.and_eq_true, beq_iff_eq] at h
    obtain ⟨⟨-, rfl⟩, rfl⟩ := h
    refine writesReadBack_uint16 (n := a.toNat) rfl (fun _ => rfl) ?_
    rw [BitVec.ofInt_natCast, BitVec.ofNat_toNat, BitVec.setWidth_eq]
    rfl
  | eui t =>
    simp only [plainField, Bool.and_eq_true, beq_iff_eq] at h
    obtain ⟨-, rfl⟩ := h
    intro w w' hw
    have hwrite : pwrite cfg 3 (.eui t) w = .ok (w ++ euiBytes t) := rfl
    rw [hwrite, Except.ok.injEq] at hw
    exact ⟨euiBytes t, hw.symm, fun o w tail _ => preadIeeeaddr_append w tail t⟩
  | bytes | list | record => cases h

theorem derivesLengthFrom_of_plainField {v : Value} (h : plainField p v = true) : p.derivesLengthFrom = none := by
  cases v with
  | int | nwk | eui =>
    simp only [plainField, Bool.and_eq_true, Option.isNone_iff_eq_none] at h
    grind
  | bytes | list | record => cases h

theorem exists_lengthSource_eq (h : p.derivesLengthFrom = none) (before : Schema) : ∃ j, lengthSource before p = .ok j := by
  simp only [lengthSource, h]
  exact ⟨_, rfl⟩

end Plain

/-! ## Maps written entry by entry -/

/-- The map with every entry of the list written, in order. -/
def setAll (l : List (String × Value)) (m : Fields) : Fields := l.foldl (fun m e => m.set e.1 e.2) m

theorem setAll_cons (e : String × Value) (l : List (String × Value)) (m : Fields) : setAll (e :: l) m = setAll l (m.set e.1 e.2) := rfl

theorem setAll_append (l l' : List (String × Value)) (m : Fields) : setAll (l ++ l') m = setAll l' (setAll l m) :=
  List.foldl_append ..

theorem wf_setAll {l : List (String × Value)} {m : Fields} (hl : ∀ e ∈ l, e.2.wf = true) (hm : m.wf = true) : (setAll l m).wf = true := by
  induction l generalizing m with
  | nil => exact hm
  | cons e l ih =>
    obtain ⟨he, hl⟩ := List.forall_mem_cons.1 hl
    exact ih hl (Fields.wf_set e.1 e.2 m he hm)

theorem get?_setAll_of_not_mem {k : String} {l : List (String × Value)} (h : k ∉ l.map (·.1)) (m : Fields) :
    (setAll l m).get? k = m.get? k := by
  induction l generalizing m with
  | nil => rfl
  | cons e l ih =>
    rw [List.map_cons, List.mem_cons, not_or] at h
    obtain ⟨hne, hl⟩ := h
    rw [setAll_cons, ih hl, Fields.get?_set_of_ne hne]

/-- With distinct names, every entry is found. -/
theorem get?_setAll_of_mem {l : List (String × Value)} (hnodup : (l.map (·.1)).Nodup) {e : String × Value} (he : e ∈ l) (m : Fields) :
    (setAll l m).get? e.1 = some e.2 := by
  induction l generalizing m with
  | nil => cases he
  | cons d l ih =>
    rw [List.map_cons, List.nodup_cons] at hnodup
    obtain ⟨hfresh, hnodup⟩ := hnodup
    rw [setAll_cons]
    rcases List.mem_cons.1 he with rfl | he
    · rw [get?_setAll_of_not_mem hfresh, Fields.get?_set_self]
    · exact ih hnodup he _

/-! ## The walks over plain fields (R205, R206) -/

/-- The fields of a schema that a payload has, in the schema's order. -/
def schemaFields (m : Fields) (sch : Schema) : List (String × Value) :=
  sch.filterMap fun p => (m.get? p.name).map fun v => (p.name, v)

theorem schemaFields_cons {m : Fields} {p : ParameterSpec} {v : Value} (h : m.get? p.name = some v) (sch : Schema) :
    schemaFields m (p :: sch) = (p.name, v) :: schemaFields m sch := by
  rw [schemaFields, List.filterMap_cons, h]
  rfl

theorem exists_plainField {m : Fields} {p : ParameterSpec} (h : (m.get? p.name).any (plainField p) = true) :
    ∃ v, m.get? p.name = some v ∧ plainField p v = true := (Option.any_eq_true ..).1 h

theorem schemaFields_names {m : Fields} {sch : Schema} (h : plainPayload sch m) : (schemaFields m sch).map (·.1) = sch.map (·.name) := by
  induction sch with
  | nil => rfl
  | cons p sch ih =>
    obtain ⟨hp, hsch⟩ := List.forall_mem_cons.1 h
    obtain ⟨v, hv, -⟩ := exists_plainField hp
    rw [schemaFields_cons hv, List.map_cons, List.map_cons, ih hsch]

theorem writeWalk_cons {cfg : Config} {m : Fields} {p : ParameterSpec} {v : Value} {w w' : List Byte} (hv : m.get? p.name = some v)
    (hwrite : pwrite cfg p.typeTag v w = .ok w') (rest : Schema) : writeWalk cfg m (p :: rest) w = writeWalk cfg m rest w' := by
  simp only [writeWalk, hv, hwrite]

/-- R205, R206: what the encode walk appends, the decode walk reads back, wherever it stands. -/
theorem readWalk_of_writeWalk {cfg : Config} {m : Fields} {rest : Schema} {w w' : List Byte} (hplain : plainPayload rest m)
    (hwrite : writeWalk cfg m rest w = .ok w') : ∃ x, w' = w ++ x ∧ ∀ (before : Schema) (result : Fields) (tail : List Byte),
      readWalk cfg (w' ++ tail) rest before w.length result = .ok (setAll (schemaFields m rest) result) := by
  induction rest generalizing w with
  | nil =>
    cases hwrite
    exact ⟨[], (List.append_nil _).symm, fun _ _ _ => rfl⟩
  | cons p rest ih =>
    obtain ⟨hp, hrest⟩ := List.forall_mem_cons.1 hplain
    obtain ⟨v, hv, hfield⟩ := exists_plainField hp
    simp only [writeWalk, hv] at hwrite
    cases hfirst : pwrite cfg p.typeTag v w with
    | error e =>
      simp only [hfirst] at hwrite
      cases hwrite
    | ok w1 =>
      simp only [hfirst] at hwrite
      obtain ⟨x, rfl, hback⟩ := writesReadBack_of_plainField hfield w w1 hfirst
      obtain ⟨y, rfl, hwalk⟩ := ih hrest hwrite
      refine ⟨x ++ y, List.append_assoc .., fun before result tail => ?_⟩
      obtain ⟨j, hj⟩ := exists_lengthSource_eq (derivesLengthFrom_of_plainField hfield) before
      have hread := hback (threadedOpts before result p j) w (y ++ tail) rfl
      rw [← List.append_assoc, ← List.length_append] at hread
      rw [readWalk_cons, hj]
      simp only [Except.bind, hread]
      rw [hwalk, schemaFields_cons hv, setAll_cons]

theorem readSchema_of_writeSchema {cfg : Config} {m : Fields} {sch : Schema} {bytes : List Byte} (hplain : plainPayload sch m)
    (hwrite : writeSchema cfg sch m = .ok bytes) : readSchema cfg sch bytes = .ok (Fields.ofList (schemaFields m sch)) := by
  obtain ⟨x, -, hwalk⟩ := readWalk_of_writeWalk hplain hwrite
  have hread := hwalk [] .nil []
  rwa [List.append_nil] at hread

/-- Settles O34: the decode walk writes the schema's fields of the payload, and those alone, into the empty map. -/
theorem plainSchemaRoundTrip : Obligations.PlainSchemaRoundTrip := by
  intro cfg sch m bytes hnodup hplain hwrite
  have hnames := schemaFields_names hplain
  refine ⟨_, readSchema_of_writeSchema hplain hwrite, ?_, ?_⟩
  · intro p hp
    obtain ⟨v, hv, -⟩ := exists_plainField (hplain p hp)
    have hmem : (p.name, v) ∈ schemaFields m sch := List.mem_filterMap.2 ⟨p, hp, by rw [hv]; rfl⟩
    rw [hv]
    exact get?_setAll_of_mem (hnames ▸ hnodup) hmem .nil
  · intro k hk
    exact get?_setAll_of_not_mem (hnames ▸ hk) .nil

/-! ## The version response (R215) -/

theorem schemaFields_ofList {l : List (String × Value)} (hnodup : (l.map (·.1)).Nodup) {sch : Schema}
    (hnames : sch.map (·.name) = l.map (·.1)) : schemaFields (Fields.ofList l) sch = l := by
  have hsch : schemaFields (Fields.ofList l) sch =
      (sch.map (·.name)).filterMap fun k => ((Fields.ofList l).get? k).map fun v => (k, v) := by
    rw [List.filterMap_map]
    rfl
  rw [hsch, hnames, List.filterMap_map]
  refine (List.filterMap_congr fun e he => ?_).trans List.filterMap_some
  have hget : (Fields.ofList l).get? e.1 = some e.2 := get?_setAll_of_mem hnodup he .nil
  rw [Function.comp_apply, hget]
  rfl

/-- R215: the fields of a version response. -/
def versionFields (a b c d e : Byte) (r : BitVec 32) : List (String × Value) :=
  [("transportrev", .int a.toNat), ("product", .int b.toNat), ("majorrel", .int c.toNat), ("minorrel", .int d.toNat),
    ("maintrel", .int e.toNat), ("revision", .int r.toNat)]

/-- R215: its bytes. -/
def versionBytes (a b c d e : Byte) (r : BitVec 32) : List Byte :=
  [a, b, c, d, e, r.extractLsb' 0 8, r.extractLsb' 8 8, r.extractLsb' 16 8, r.extractLsb' 24 8]

theorem versionFields_nodup (a b c d e : Byte) (r : BitVec 32) : ((versionFields a b c d e r).map (·.1)).Nodup := by
  show ["transportrev", "product", "majorrel", "minorrel", "maintrel", "revision"].Nodup
  decide

theorem intBytes_byte (a : Byte) : Claim.intBytes 1 a.toNat = [a] := by simp [Claim.intBytes]

theorem pwrite_byte (cfg : Config) (a : Byte) (w : List Byte) : pwrite cfg 0 (.int a.toNat) w = .ok (w ++ [a]) := by
  have hrange : intInRange (8 * 1) false a.toNat = true := (intInRange_bytes_iff 1 _).2 (by omega)
  have hwrite : pwrite cfg 0 (.int a.toNat) w = writeInt (8 * 1) false a.toNat w := rfl
  rw [hwrite, writeInt_of_range hrange, intBytes_byte]

/-- R133: byte `i` of a number is its bits from `8 * i` on. -/
theorem ofInt_ediv_pow {n : Nat} (r : BitVec n) (i : Nat) : BitVec.ofInt 8 ((r.toNat : Int) / 256 ^ i) = r.extractLsb' (8 * i) 8 := by
  have hquot : (r.toNat : Int) / 256 ^ i = ((r.toNat / 2 ^ (8 * i) : Nat) : Int) := by
    rw [pow_mul]
    push_cast
    rfl
  apply BitVec.eq_of_toNat_eq
  rw [hquot, BitVec.ofInt_natCast, BitVec.toNat_ofNat, BitVec.extractLsb'_toNat, Nat.shiftRight_eq_div_pow]

theorem pwrite_word (cfg : Config) (r : BitVec 32) (w : List Byte) :
    pwrite cfg 2 (.int r.toNat) w =
      .ok (w ++ [r.extractLsb' 0 8, r.extractLsb' 8 8, r.extractLsb' 16 8, r.extractLsb' 24 8]) := by
  have hrange : intInRange (8 * 4) false r.toNat = true := (intInRange_bytes_iff 4 _).2 (by omega)
  have hbytes : Claim.intBytes 4 r.toNat = [r.extractLsb' 0 8, r.extractLsb' 8 8, r.extractLsb' 16 8, r.extractLsb' 24 8] := by
    simp only [Claim.intBytes, ofInt_ediv_pow]
    rfl
  have hwrite : pwrite cfg 2 (.int r.toNat) w = writeInt (8 * 4) false r.toNat w := rfl
  rw [hwrite, writeInt_of_range hrange, hbytes]

theorem writeWalk_byte {m : Fields} {name : String} {a : Byte} (h : m.get? name = some (.int a.toNat)) (cfg : Config) (rest : Schema)
    (w : List Byte) : writeWalk cfg m (.plain name 0 :: rest) w = writeWalk cfg m rest (w ++ [a]) :=
  writeWalk_cons (p := .plain name 0) h (pwrite_byte cfg a w) rest

theorem writeWalk_word {m : Fields} {name : String} {r : BitVec 32} (h : m.get? name = some (.int r.toNat)) (cfg : Config) (rest : Schema)
    (w : List Byte) : writeWalk cfg m (.plain name 2 :: rest) w =
      writeWalk cfg m rest (w ++ [r.extractLsb' 0 8, r.extractLsb' 8 8, r.extractLsb' 16 8, r.extractLsb' 24 8]) :=
  writeWalk_cons (p := .plain name 2) h (pwrite_word cfg r w) rest

section Version

variable (a b c d e : Byte) (r : BitVec 32)

theorem get?_versionFields {f : String × Value} (hf : f ∈ versionFields a b c d e r) :
    (Fields.ofList (versionFields a b c d e r)).get? f.1 = some f.2 :=
  get?_setAll_of_mem (versionFields_nodup a b c d e r) hf .nil

/-- The values of a version response, under the names of its schema. -/
structure VersionValues (m : Fields) : Prop where
  transportrev : m.get? "transportrev" = some (.int a.toNat)
  product : m.get? "product" = some (.int b.toNat)
  majorrel : m.get? "majorrel" = some (.int c.toNat)
  minorrel : m.get? "minorrel" = some (.int d.toNat)
  maintrel : m.get? "maintrel" = some (.int e.toNat)
  revision : m.get? "revision" = some (.int r.toNat)

theorem versionValues_ofList : VersionValues a b c d e r (Fields.ofList (versionFields a b c d e r)) := by
  have hall : ∀ f ∈ versionFields a b c d e r, (Fields.ofList (versionFields a b c d e r)).get? f.1 = some f.2 :=
    fun f hf => get?_versionFields a b c d e r hf
  generalize Fields.ofList (versionFields a b c d e r) = m at hall
  simp only [versionFields, List.forall_mem_cons] at hall
  obtain ⟨ha, hb, hc, hd, he, hr, -⟩ := hall
  exact ⟨ha, hb, hc, hd, he, hr⟩

variable {a b c d e r}

theorem version_plain {m : Fields} (h : VersionValues a b c d e r m) : plainPayload CommandSpec.version.responseSchema m := by
  obtain ⟨ha, hb, hc, hd, he, hr⟩ := h
  intro p hp
  simp only [CommandSpec.version, ParameterSpec.plain, List.mem_cons, List.not_mem_nil, or_false] at hp
  rcases hp with rfl | rfl | rfl | rfl | rfl | rfl
  · rw [ha]; rfl
  · rw [hb]; rfl
  · rw [hc]; rfl
  · rw [hd]; rfl
  · rw [he]; rfl
  · rw [hr]; rfl

theorem version_written {m : Fields} (h : VersionValues a b c d e r m) (cfg : Config) :
    writeSchema cfg CommandSpec.version.responseSchema m = .ok (versionBytes a b c d e r) := by
  obtain ⟨ha, hb, hc, hd, he, hr⟩ := h
  rw [writeSchema, CommandSpec.version, writeWalk_byte ha, writeWalk_byte hb, writeWalk_byte hc, writeWalk_byte hd, writeWalk_byte he,
    writeWalk_word hr, writeWalk]
  rfl

variable (a b c d e r)

theorem version_read (cfg : Config) :
    readSchema cfg CommandSpec.version.responseSchema (versionBytes a b c d e r) =
      .ok (Fields.ofList (versionFields a b c d e r)) := by
  have hvalues := versionValues_ofList a b c d e r
  rw [readSchema_of_writeSchema (version_plain hvalues) (version_written hvalues cfg),
    schemaFields_ofList (versionFields_nodup a b c d e r) rfl]

/-- R215: the object of a version response. -/
def versionObject : CommandObject :=
  ⟨.srsp, 1, "version", 2, Fields.ofList (versionFields a b c d e r), CommandSpec.version.responseSchema, none⟩

theorem operands_versionObject : Operands.object (versionObject a b c d e r) = true := by
  have hvalues : ∀ f ∈ versionFields a b c d e r, f.2.wf = true := by
    simp only [versionFields, List.forall_mem_cons, List.not_mem_nil, false_implies, implies_true, and_true]
    exact ⟨rfl, rfl, rfl, rfl, rfl, rfl⟩
  exact (operands_object_iff _).2 ⟨wf_setAll hvalues rfl, versionFields_nodup a b c d e r⟩

end Version

/-- Settles O32: the six fields are written as those nine bytes, and plain fields read back. -/
theorem versionResponseRoundTrip : Obligations.VersionResponseRoundTrip := by
  intro s a b c d e r hentry
  have hwritten := version_written (versionValues_ofList a b c d e r) s.config
  refine ⟨frameOf (versionObject a b c d e r) (versionBytes a b c d e r), versionObject a b c d e r, rfl, rfl, rfl, rfl, ?_, ?_, rfl, rfl, rfl⟩
  · rw [exec_fromFrame, fromFrame_of_lookup (t := .srsp) rfl (lookupById_of_entry hentry)]
    have hread : readSchema s.config (schemaOf CommandSpec.version .srsp)
        (frameOf (versionObject a b c d e r) (versionBytes a b c d e r)).payload = _ := version_read a b c d e r s.config
    rw [hread]
    rfl
  · rw [exec_toFrame_of_wf (operands_versionObject a b c d e r), toFrame_of_fits hwritten (by simp [versionBytes])]
    rfl

end Sys2Proof.Proofs
end

section
/-! PROOFS. The errors of the record lists (spec/41_parameter_codec.md R134, R166, R167). A layout is seen as the list of its fields: each field has at
most one error of its kind and one of its range, and the whole write fails with the first, kinds of the whole list before ranges (R303). -/

namespace Sys2Proof.Proofs

open Sys2Proof Sys2Proof.Machine Sys2Proof.Claim

/-! ## Outcomes by the first error -/

section FirstError

variable {α β : Type}

theorem findSome?_flatMap (f : β → Option Err) (g : α → List β) (l : List α) :
    (l.flatMap g).findSome? f = l.findSome? fun a => (g a).findSome? f := by
  induction l with
  | nil => rfl
  | cons a l ih =>
    rw [List.flatMap_cons, List.findSome?_append, ih, List.findSome?_cons]
    cases (g a).findSome? f <;> rfl

theorem findSome?_of_split {f : α → Option Err} {before after : List α} {a : α} {e : Err} (hbefore : ∀ b ∈ before, f b = none)
    (ha : f a = some e) : (before ++ a :: after).findSome? f = some e := by
  rw [List.findSome?_append, List.findSome?_eq_none_iff.2 hbefore, List.findSome?_cons, ha]
  rfl

theorem checkAll_eq_findSome? {f : α → Except Err β} {err : α → Option Err} {g : α → β} {l : List α}
    (h : ∀ a ∈ l, f a = (err a).elim (.ok (g a)) .error) : checkAll f l = (l.findSome? err).elim (.ok (l.map g)) .error := by
  induction l with
  | nil => rfl
  | cons a l ih =>
    obtain ⟨ha, hl⟩ := List.forall_mem_cons.1 h
    simp only [checkAll, ha, ih hl, List.findSome?_cons]
    cases err a with
    | some e => rfl
    | none => cases l.findSome? err <;> rfl

theorem writeAll_eq_findSome? {f : α → List Byte → Except Err (List Byte)} {err : α → Option Err} {g : α → List Byte} {l : List α}
    (h : ∀ a ∈ l, ∀ w, f a w = (err a).elim (.ok (w ++ g a)) .error) (w : List Byte) :
    writeAll f l w = (l.findSome? err).elim (.ok (w ++ l.flatMap g)) .error := by
  induction l generalizing w with
  | nil => simp [writeAll]
  | cons a l ih =>
    obtain ⟨ha, hl⟩ := List.forall_mem_cons.1 h
    simp only [writeAll, ha, List.findSome?_cons, List.flatMap_cons]
    cases err a with
    | some e => rfl
    | none => simp only [Option.elim_none, ih hl, List.append_assoc]

theorem checkAll_map {γ : Type} (f : β → Except Err γ) (g : α → β) (l : List α) :
    checkAll f (l.map g) = checkAll (fun a => f (g a)) l := by
  induction l with
  | nil => rfl
  | cons a l ih => simp only [List.map_cons, checkAll, ih]

theorem writeAll_map (f : β → List Byte → Except Err (List Byte)) (g : α → β) (l : List α) (w : List Byte) :
    writeAll f (l.map g) w = writeAll (fun a => f (g a)) l w := by
  induction l generalizing w with
  | nil => rfl
  | cons a l ih =>
    simp only [List.map_cons, writeAll]
    cases f (g a) w with
    | error e => rfl
    | ok w' => exact ih w'

end FirstError

/-! ## The fields of an item -/

/-- R134: the fields of an item, each with the bits of its number, none for an identifier. -/
def fieldsOf : LayoutItem → List (String × Option Nat)
  | .u8 n => [(n, some 8)]
  | .u16 n => [(n, some 16)]
  | .eui n => [(n, none)]
  | .packed fs => fs.map (fun f => (f.name, some (f.hi + 1 - f.lo)))

theorem layoutFields_eq (l : Layout) : layoutFields l = l.flatMap fieldsOf := by
  refine List.flatMap_congr fun i _ => ?_
  cases i <;> rfl

theorem fieldsOf_subset {l : Layout} {i : LayoutItem} (hi : i ∈ l) : ∀ f ∈ fieldsOf i, f ∈ layoutFields l := by
  intro f hf
  rw [layoutFields_eq]
  exact List.mem_flatMap.2 ⟨i, hi, hf⟩

/-! ## Kinds (R134) -/

section Kinds

variable {tag : Tag} {m : Fields}

/-- R134: what is wrong with a field's presence or kind. -/
def kindError (tag : Tag) (m : Fields) (f : String × Option Nat) : Option Err :=
  match m.get? f.1 with
  | none => some (.schemaError (.missingField f.1))
  | some v => if kindFits f.2 v then none else some (.schemaError (.wrongKind tag.toNat))

theorem kindError_of_missing {f : String × Option Nat} (h : m.get? f.1 = none) :
    kindError tag m f = some (.schemaError (.missingField f.1)) := by
  simp only [kindError, h]

theorem kindError_of_wrongKind {f : String × Option Nat} {v : Value} (h : m.get? f.1 = some v) (hv : kindFits f.2 v = false) :
    kindError tag m f = some (.schemaError (.wrongKind tag.toNat)) := by
  simp only [kindError, h, hv, Bool.false_eq_true, if_false]

theorem kindError_of_fits {f : String × Option Nat} (h : fieldFits m f = true) : kindError tag m f = none := by
  obtain ⟨v, hv, hkind⟩ := (Option.any_eq_true ..).1 h
  simp only [kindError, hv, hkind, if_true]

theorem findSome?_kindError_of_fits {fs : List (String × Option Nat)} (h : ∀ f ∈ fs, fieldFits m f = true) :
    fs.findSome? (kindError tag m) = none := List.findSome?_eq_none_iff.2 fun f hf => kindError_of_fits (h f hf)

/-- R134: the values of an item whose fields are there, of their kinds. -/
def itemValue (m : Fields) : LayoutItem → ItemValue
  | .u8 n => .num 8 (numberAt m n)
  | .u16 n => .num 16 (numberAt m n)
  | .eui n =>
    match m.get? n with
    | some (.eui t) => .eui t
    | _ => .packed []
  | .packed fs => .packed (fs.map fun f => (f, numberAt m f.name))

theorem intFieldOf_eq (tag : Tag) (m : Fields) (name : String) (bits : Nat) :
    intFieldOf tag m name = (kindError tag m (name, some bits)).elim (.ok (numberAt m name)) .error := by
  simp only [intFieldOf, fieldOf, kindError, numberAt]
  cases m.get? name with
  | none => rfl
  | some v => cases v <;> rfl

/-- R134: the first field of an item that is wrong decides. -/
theorem resolveItem_eq (tag : Tag) (m : Fields) (i : LayoutItem) :
    resolveItem tag m i = ((fieldsOf i).findSome? (kindError tag m)).elim (.ok (itemValue m i)) .error := by
  cases i with
  | u8 name =>
    simp only [resolveItem, intFieldOf_eq tag m name 8, fieldsOf, List.findSome?_cons, List.findSome?_nil]
    cases kindError tag m (name, some 8) <;> rfl
  | u16 name =>
    simp only [resolveItem, intFieldOf_eq tag m name 16, fieldsOf, List.findSome?_cons, List.findSome?_nil]
    cases kindError tag m (name, some 16) <;> rfl
  | eui name =>
    simp only [resolveItem, fieldOf, itemValue, fieldsOf, List.findSome?_cons, List.findSome?_nil, kindError]
    cases m.get? name with
    | none => rfl
    | some v => cases v <;> rfl
  | packed fs =>
    have hcheck : checkAll (fun f : BitField => intFieldOf tag m f.name) fs =
        (fs.findSome? fun f => kindError tag m (f.name, some (f.hi + 1 - f.lo))).elim (.ok (fs.map fun f => numberAt m f.name)) .error :=
      checkAll_eq_findSome? fun f _ => intFieldOf_eq tag m f.name (f.hi + 1 - f.lo)
    have hfields : (fieldsOf (.packed fs)).findSome? (kindError tag m) =
        fs.findSome? fun f => kindError tag m (f.name, some (f.hi + 1 - f.lo)) := List.findSome?_map
    simp only [resolveItem, hcheck, hfields, itemValue, List.map_prod_left_eq_zip]
    cases fs.findSome? fun f => kindError tag m (f.name, some (f.hi + 1 - f.lo)) <;> rfl

/-- R134: the first field of an element that is wrong decides. -/
theorem resolveRecord_eq (tag : Tag) (layout : Layout) (m : Fields) :
    resolveRecord tag layout (.record m) =
      ((layoutFields layout).findSome? (kindError tag m)).elim (.ok (layout.map (itemValue m))) .error := by
  rw [resolveRecord, checkAll_eq_findSome? fun i _ => resolveItem_eq tag m i, layoutFields_eq, findSome?_flatMap]

theorem resolveRecord_of_fits {layout : Layout} (h : ∀ f ∈ layoutFields layout, fieldFits m f = true) :
    resolveRecord tag layout (.record m) = .ok (layout.map (itemValue m)) := by
  rw [resolveRecord_eq, findSome?_kindError_of_fits h, Option.elim_none]

theorem resolveRecord_of_wrongKind {v : Value} (h : ∀ m, v ≠ .record m) (layout : Layout) :
    resolveRecord tag layout v = .error (.schemaError (.wrongKind tag.toNat)) := by
  cases v with
  | record m => exact absurd rfl (h m)
  | int | nwk | eui | bytes | list => rfl

theorem resolveRecord_of_split {layout : Layout} {before after : List (String × Option Nat)} {f : String × Option Nat} {e : Err}
    (hsplit : layoutFields layout = before ++ f :: after) (hbefore : ∀ g ∈ before, fieldFits m g = true)
    (he : kindError tag m f = some e) : resolveRecord tag layout (.record m) = .error e := by
  rw [resolveRecord_eq, hsplit, findSome?_of_split (fun g hg => kindError_of_fits (hbefore g hg)) he, Option.elim_some]

/-- R134, R303: the first element that is wrong decides, before anything is written. -/
theorem writeRecordList_of_split {layout : Layout} {good : List Fields} {v : Value} {rest : List Value} {e : Err}
    (hgood : ∀ m ∈ good, ∀ f ∈ layoutFields layout, fieldFits m f = true) (hv : resolveRecord tag layout v = .error e) (w : List Byte) :
    writeRecordList tag layout (.list (Values.ofList (good.map .record ++ v :: rest))) w = .error e := by
  have hcheck : checkAll (resolveRecord tag layout) (good.map .record ++ v :: rest) = .error e := by
    refine checkAll_of_split (fun u hu => ?_) hv
    obtain ⟨m, hm, rfl⟩ := List.mem_map.1 hu
    exact ⟨_, resolveRecord_of_fits (hgood m hm)⟩
  simp only [writeRecordList, asList_list, hcheck]

end Kinds

/-! ## Packed bytes (R134) -/

/-- R134: what is wrong with the range of a field's number. -/
def rangeError (m : Fields) (f : String × Option Nat) : Option Err :=
  match f.2 with
  | some bits => if intInRange bits false (numberAt m f.1) then none else some (.valueOutOfRange bits false (numberAt m f.1))
  | none => none

section Packed

variable {m : Fields}

theorem intInRange_false_iff (bits : Nat) (n : Int) : intInRange bits false n = true ↔ 0 ≤ n ∧ n < 2 ^ bits := decide_eq_true_iff

theorem rangeError_eq_none_iff (m : Fields) (n : String) (bits : Nat) :
    rangeError m (n, some bits) = none ↔ 0 ≤ numberAt m n ∧ numberAt m n < 2 ^ bits := by
  rw [← intInRange_false_iff]
  unfold rangeError
  dsimp only
  split <;> simp [*]

/-- The byte with the number of each field set in at its place. -/
def packedByte (m : Fields) (fs : List BitField) (acc : Byte) : Byte :=
  fs.foldl (fun acc f => acc ||| BitVec.ofNat 8 ((numberAt m f.name).toNat <<< f.lo)) acc

theorem packByte_eq (m : Fields) (fs : List BitField) (acc : Byte) :
    packByte (fs.map fun f => (f, numberAt m f.name)) acc =
      ((fieldsOf (.packed fs)).findSome? (rangeError m)).elim (.ok (packedByte m fs acc)) .error := by
  induction fs generalizing acc with
  | nil => rfl
  | cons f fs ih =>
    have hfields : fieldsOf (.packed (f :: fs)) = (f.name, some (f.hi + 1 - f.lo)) :: fieldsOf (.packed fs) := rfl
    rw [hfields, List.findSome?_cons]
    simp only [List.map_cons, packByte, packField, rangeError]
    split
    next e he =>
      split at he
      · cases he
      next hrange =>
        cases he
        rw [if_neg hrange]
        rfl
    next b hb =>
      split at hb
      next hrange =>
        cases hb
        rw [if_pos hrange]
        exact ih _
      · cases hb

theorem getLsbD_packedByte (fs : List BitField) (acc : Byte) {j : Nat} (hj : j < 8) :
    (packedByte m fs acc).getLsbD j =
      (acc.getLsbD j || fs.any fun f => decide (f.lo ≤ j) && (numberAt m f.name).toNat.testBit (j - f.lo)) := by
  induction fs generalizing acc with
  | nil => simp [packedByte]
  | cons f fs ih =>
    have hcons : packedByte m (f :: fs) acc = packedByte m fs (acc ||| BitVec.ofNat 8 ((numberAt m f.name).toNat <<< f.lo)) := rfl
    rw [hcons, ih, BitVec.getLsbD_or, BitVec.getLsbD_ofNat, decide_eq_true hj, Bool.true_and, Nat.testBit_shiftLeft, List.any_cons,
      Bool.or_assoc]

/-- A sum of distinct powers of two has those bits. -/
theorem sum_range_bits (p : Nat → Bool) (k : Nat) :
    ((List.range k).map fun j => if p j then 2 ^ j else 0).sum < 2 ^ k ∧
      ∀ i < k, ((List.range k).map fun j => if p j then 2 ^ j else 0).sum.testBit i = p i := by
  induction k with
  | zero => exact ⟨Nat.one_pos, nofun⟩
  | succ k ih =>
    obtain ⟨hlt, hbits⟩ := ih
    rw [List.range_succ, List.map_append, List.sum_append, List.map_singleton, List.sum_singleton]
    have htop : (if p k then 2 ^ k else 0) = 2 ^ k * (p k).toNat := by cases p k <;> simp
    generalize ((List.range k).map fun j => if p j then 2 ^ j else 0).sum = x at hlt hbits
    rw [htop, Nat.add_comm]
    refine ⟨?_, fun i hi => ?_⟩
    · have hle : 2 ^ k * (p k).toNat ≤ 2 ^ k * 1 := Nat.mul_le_mul_left _ (Bool.toNat_le _)
      rw [pow_succ]
      omega
    · rw [Nat.testBit_two_pow_mul_add _ hlt]
      split
      next hik => exact hbits i hik
      next hik =>
        obtain rfl : i = k := by omega
        rw [Nat.sub_self]
        cases p i <;> rfl

/-- R134: with every number in its range, the byte has the bits that the claim gives it. -/
theorem packedByte_eq {fs : List BitField} (h : (fieldsOf (.packed fs)).findSome? (rangeError m) = none) :
    [packedByte m fs 0] = itemBytes m (.packed fs) := by
  have hrange : ∀ f ∈ fs, 0 ≤ numberAt m f.name ∧ numberAt m f.name < 2 ^ (f.hi + 1 - f.lo) := fun f hf =>
    (rangeError_eq_none_iff ..).1 (List.findSome?_eq_none_iff.1 h _ (List.mem_map_of_mem hf))
  refine congrArg (fun b => [b]) (BitVec.eq_of_getLsbD_eq fun j hj => ?_)
  obtain ⟨-, hbits⟩ := sum_range_bits (packedBit fs m) 8
  have hzero : (0 : Byte).getLsbD j = false := BitVec.getLsbD_zero
  rw [getLsbD_packedByte fs 0 hj, BitVec.getLsbD_ofNat, decide_eq_true hj, Bool.true_and, hbits j hj, hzero, Bool.false_or, packedBit]
  rw [Bool.eq_iff_iff, List.any_eq_true, List.any_eq_true]
  refine exists_congr fun f => and_congr_right fun hf => ?_
  by_cases hhi : j ≤ f.hi
  · simp [hhi]
  · obtain ⟨hlo, hlt⟩ := hrange f hf
    have hsmall : (numberAt m f.name).toNat < 2 ^ (j - f.lo) := by
      have hpow : 2 ^ (f.hi + 1 - f.lo) ≤ 2 ^ (j - f.lo) := Nat.pow_le_pow_right Nat.two_pos (by omega)
      have hcast : (numberAt m f.name).toNat < 2 ^ (f.hi + 1 - f.lo) := by
        zify
        rwa [Int.toNat_of_nonneg hlo]
      omega
    simp [hhi, Nat.testBit_lt_two_pow hsmall]

end Packed

/-! ## Ranges (R134, R303) -/

section Ranges

variable {m : Fields}

theorem numberAt_of_number {n : String} {k : Int} (h : (m.get? n).bind (number true) = some k) : numberAt m n = k := by
  rw [numberAt, h, Option.getD_some]

theorem rangeError_of_fits {f : String × Option Nat} (h : rangeFits m f = true) : rangeError m f = none := by
  obtain ⟨n, bits⟩ := f
  cases bits with
  | none => rfl
  | some bits =>
    obtain ⟨k, hk, hrange⟩ := (Option.any_eq_true ..).1 h
    rw [rangeError_eq_none_iff, numberAt_of_number hk]
    exact of_decide_eq_true hrange

theorem rangeError_of_out {n : String} {bits : Nat} {k : Int} (hk : (m.get? n).bind (number true) = some k)
    (hout : k < 0 ∨ 2 ^ bits ≤ k) : rangeError m (n, some bits) = some (.valueOutOfRange bits false k) := by
  have hnot : ¬ intInRange bits false k = true := by
    rw [intInRange_false_iff]
    omega
  simp only [rangeError, numberAt_of_number hk, if_neg hnot]

theorem findSome?_rangeError_of_fits {fs : List (String × Option Nat)} (h : ∀ f ∈ fs, rangeFits m f = true) :
    fs.findSome? (rangeError m) = none := List.findSome?_eq_none_iff.2 fun f hf => rangeError_of_fits (h f hf)

theorem writeInt_eq (k : Nat) (n : Int) (w : List Byte) : writeInt (8 * k) false n w =
    (if intInRange (8 * k) false n then none else some (Err.valueOutOfRange (8 * k) false n)).elim (.ok (w ++ Claim.intBytes k n)) .error := by
  by_cases h : intInRange (8 * k) false n = true
  · rw [writeInt_of_range h, if_pos h, Option.elim_none]
  · rw [writeInt_of_not_range h, if_neg h, Option.elim_some]

/-- R134: the first number of an item that is out of its range decides. -/
theorem writeItem_eq {i : LayoutItem} (h : ∀ f ∈ fieldsOf i, fieldFits m f = true) (w : List Byte) :
    writeItem (itemValue m i) w = ((fieldsOf i).findSome? (rangeError m)).elim (.ok (w ++ itemBytes m i)) .error := by
  cases i with
  | u8 name =>
    have hwrite := writeInt_eq 1 (numberAt m name) w
    simp only [itemValue, writeItem, fieldsOf, List.findSome?_cons, List.findSome?_nil, rangeError, itemBytes]
    rw [hwrite]
    split <;> rfl
  | u16 name =>
    have hwrite := writeInt_eq 2 (numberAt m name) w
    simp only [itemValue, writeItem, fieldsOf, List.findSome?_cons, List.findSome?_nil, rangeError, itemBytes]
    rw [hwrite]
    split <;> rfl
  | eui name =>
    obtain ⟨v, hv, hkind⟩ := (Option.any_eq_true ..).1 (h _ (List.mem_singleton_self _))
    cases v with
    | eui t =>
      simp only [itemValue, hv, writeItem, fieldsOf, List.findSome?_cons, List.findSome?_nil, rangeError, itemBytes]
      rfl
    | int | nwk | bytes | list | record => cases hkind
  | packed fs =>
    rw [itemValue, writeItem, packByte_eq]
    cases hrange : (fieldsOf (.packed fs)).findSome? (rangeError m) with
    | none => simp only [Option.elim_none, packedByte_eq hrange]
    | some e => rfl

/-- R134, R303: with all kinds right, the first number of the whole list that is out of its range decides. -/
theorem writeRecordList_eq {tag : Tag} {layout : Layout} {ms : List Fields}
    (h : ∀ m ∈ ms, ∀ f ∈ layoutFields layout, fieldFits m f = true) (w : List Byte) :
    writeRecordList tag layout (.list (Values.ofList (ms.map .record))) w =
      (ms.findSome? fun m => (layoutFields layout).findSome? (rangeError m)).elim
        (.ok (w ++ ms.flatMap fun m => layout.flatMap (itemBytes m))) .error := by
  have hcheck : checkAll (resolveRecord tag layout) (ms.map .record) = .ok (ms.map fun m => layout.map (itemValue m)) := by
    rw [checkAll_map]
    exact checkAll_of_forall fun m hm => resolveRecord_of_fits (h m hm)
  simp only [writeRecordList, asList_list, hcheck, writeAll_map]
  refine writeAll_eq_findSome? (fun m hm w => ?_) w
  rw [layoutFields_eq, findSome?_flatMap, writeAll_map]
  exact writeAll_eq_findSome? (fun i hi w => writeItem_eq (fun f hf => h m hm f (fieldsOf_subset hi f hf)) w) w

end Ranges

/-! ## Elements read (R134, R167) -/

section Reads

variable {b : List Byte} {pos : Nat}

theorem readItem_of_le {i : LayoutItem} (h : pos + i.size ≤ b.length) (m : Fields) :
    readItem b pos m i = .ok (setAll (itemFields (slice b pos i.size) i) m, pos + i.size) := by
  have hlength := length_slice h
  cases i with
  | u8 name =>
    rw [readItem, readInt_of_le (k := 1) h]
    rfl
  | u16 name =>
    rw [readItem, readInt_of_le (k := 2) h]
    rfl
  | eui name =>
    have hread : cursorRead b pos 8 = .ok (slice b pos 8, pos + 8) := cursorRead_of_le h
    match hs : slice b pos 8, hlength with
    | [b0, b1, b2, b3, b4, b5, b6, b7], _ =>
      rw [hs] at hread
      simp only [readItem, hread, LayoutItem.size]
      rfl
  | packed fs =>
    have hread : cursorRead b pos 1 = .ok (slice b pos 1, pos + 1) := cursorRead_of_le h
    match hs : slice b pos 1, hlength with
    | [x], _ =>
      rw [hs] at hread
      have hvalue : natOf [x] = x.toNat := by simp [natOf]
      simp only [readItem, hread, LayoutItem.size, itemFields, hvalue, List.headD_cons, unpackByte, setAll, List.foldl_map]
      rfl

theorem readItem_of_lt {i : LayoutItem} (h : b.length < pos + i.size) (m : Fields) :
    readItem b pos m i = .error (.bufferUnderrun pos i.size) := by
  cases i with
  | u8 name => rw [readItem, readInt_of_lt (k := 1) h]; rfl
  | u16 name => rw [readItem, readInt_of_lt (k := 2) h]; rfl
  | eui name =>
    have hread : cursorRead b pos 8 = .error (.bufferUnderrun pos 8) := cursorRead_of_lt h
    simp only [readItem, hread]
    rfl
  | packed fs =>
    have hread : cursorRead b pos 1 = .error (.bufferUnderrun pos 1) := cursorRead_of_lt h
    simp only [readItem, hread]
    rfl

@[simp] theorem layout_size_cons (i : LayoutItem) (l : Layout) : Layout.size (i :: l) = i.size + Layout.size l := List.sum_cons

theorem elementFields_cons (b : List Byte) (pos : Nat) (i : LayoutItem) (l : Layout) :
    elementFields (i :: l) (slice b pos (Layout.size (i :: l))) =
      itemFields (slice b pos i.size) i ++ elementFields l (slice b (pos + i.size) (Layout.size l)) := by
  have htake : (slice b pos (i.size + Layout.size l)).take i.size = slice b pos i.size := by
    rw [slice, slice, List.take_take, Nat.min_eq_left (Nat.le_add_right ..)]
  have hdrop : (slice b pos (i.size + Layout.size l)).drop i.size = slice b (pos + i.size) (Layout.size l) := by
    rw [slice, slice, List.drop_take, List.drop_drop, Nat.add_sub_cancel_left]
  rw [layout_size_cons, elementFields, htake, hdrop]

theorem readItems_of_le {l : Layout} (h : pos + l.size ≤ b.length) (m : Fields) :
    readItems b l pos m = .ok (setAll (elementFields l (slice b pos l.size)) m, pos + l.size) := by
  induction l generalizing pos m with
  | nil => rfl
  | cons i l ih =>
    rw [layout_size_cons] at h
    rw [elementFields_cons, setAll_append, layout_size_cons, ← Nat.add_assoc]
    simp only [readItems, readItem_of_le (by omega : pos + i.size ≤ b.length)]
    exact ih (by omega) _

/-- R134: the first item of an element that is not whole decides. -/
theorem readItems_of_lt {l : Layout} (hl : l ≠ []) (h : b.length < pos + l.size) (m : Fields) :
    ∃ before i after, l = before ++ i :: after ∧ (pos + Layout.size before ≤ b.length ∨ before = []) ∧
      b.length < pos + Layout.size before + i.size ∧
      readItems b l pos m = .error (.bufferUnderrun (pos + Layout.size before) i.size) := by
  induction l generalizing pos m with
  | nil => exact absurd rfl hl
  | cons i l ih =>
    rcases Nat.lt_or_ge b.length (pos + i.size) with hlt | hle
    · refine ⟨[], i, l, rfl, .inr rfl, hlt, ?_⟩
      simp only [readItems, readItem_of_lt hlt]
      rfl
    · rw [layout_size_cons] at h
      have hrest : l ≠ [] := by
        rintro rfl
        exact absurd hle (by simpa [Layout.size] using h)
      obtain ⟨before, j, after, rfl, hbefore, hshort, hread⟩ :=
        ih hrest (by omega : b.length < pos + i.size + Layout.size l) (setAll (itemFields (slice b pos i.size) i) m)
      refine ⟨i :: before, j, after, rfl, .inl ?_, ?_, ?_⟩
      · rw [layout_size_cons]
        rcases hbefore with hwhole | rfl
        · omega
        · exact hle
      · rw [layout_size_cons]
        omega
      · simp only [readItems, readItem_of_le hle, hread, layout_size_cons, Nat.add_assoc]

theorem readRecord_of_le {layout : Layout} (h : pos + layout.size ≤ b.length) :
    readRecord layout b pos = .ok (.record (Fields.ofList (elementFields layout (slice b pos layout.size))), pos + layout.size) := by
  rw [readRecord, readItems_of_le h]
  rfl

/-- R163, R167: the first item that is not whole decides, whatever element it is in. -/
theorem readMany_readRecord_of_lt {layout : Layout} (hlayout : layout ≠ []) {k : Nat} (hk : k ≠ 0) (h : b.length < pos + k * layout.size) :
    ∃ e before i after, e < k ∧ layout = before ++ i :: after ∧
      (pos + e * layout.size + Layout.size before ≤ b.length ∨ (e = 0 ∧ before = [])) ∧
      b.length < pos + e * layout.size + Layout.size before + i.size ∧
      readMany (readRecord layout b) k pos = .error (.bufferUnderrun (pos + e * layout.size + Layout.size before) i.size) := by
  induction k generalizing pos with
  | zero => exact absurd rfl hk
  | succ k ih =>
    rcases Nat.lt_or_ge b.length (pos + layout.size) with hlt | hle
    · obtain ⟨before, i, after, hsplit, hbefore, hshort, hread⟩ := readItems_of_lt hlayout hlt .nil
      refine ⟨0, before, i, after, k.succ_pos, hsplit, ?_⟩
      rw [Nat.zero_mul, Nat.add_zero]
      refine ⟨hbefore.imp_right fun hnil => ⟨rfl, hnil⟩, hshort, ?_⟩
      simp only [readMany, readRecord, hread]
    · have hplace : ∀ e, pos + (e + 1) * layout.size = pos + layout.size + e * layout.size := fun e => by
        rw [Nat.succ_mul, Nat.add_comm (e * _), Nat.add_assoc]
      rw [hplace] at h
      have hk' : k ≠ 0 := by
        rintro rfl
        omega
      obtain ⟨e, before, i, after, he, hsplit, hbefore, hshort, hread⟩ := ih hk' h
      refine ⟨e + 1, before, i, after, Nat.succ_lt_succ he, hsplit, ?_⟩
      rw [hplace]
      refine ⟨.inl ?_, hshort, ?_⟩
      · rcases hbefore with hwhole | ⟨rfl, rfl⟩
        · exact hwhole
        · simpa [Layout.size] using hle
      · simp only [readMany, readRecord_of_le hle, hread]

end Reads

/-! ## The four record lists -/

/-- What the instructions of a record list run, in a state with this layout. -/
structure RunsRecordList (mkW : Value → List Byte → Instr) (mkR : ReadOpts → List Byte → Nat → Instr) (tag : Tag) (layout : Layout)
    (s : State) : Prop where
  write : ∃ op, ∀ v w, exec (mkW v w) s = .next (writeOp op v (writeRecordList tag layout v w) s)
  read : ∀ o b p, exec (mkR o b p) s = .next (readOp (readCounted tag (readRecord layout b) o p) s)

theorem routing_runs (s : State) :
    RunsRecordList .pwriteListRoutingTable .preadListRoutingTable .listRoutingTable s.config.layoutRouting s :=
  ⟨⟨_, fun _ _ => rfl⟩, fun _ _ _ => rfl⟩

theorem bind_runs (s : State) : RunsRecordList .pwriteListBindTable .preadListBindTable .listBindTable s.config.layoutBind s :=
  ⟨⟨_, fun _ _ => rfl⟩, fun _ _ _ => rfl⟩

theorem neighbor_runs (s : State) :
    RunsRecordList .pwriteListNeighborLqi .preadListNeighborLqi .listNeighborLqi s.config.layoutNeighbor s :=
  ⟨⟨_, fun _ _ => rfl⟩, fun _ _ _ => rfl⟩

theorem network_runs (s : State) : RunsRecordList .pwriteListNetwork .preadListNetwork .listNetwork s.config.layoutNetwork s :=
  ⟨⟨_, fun _ _ => rfl⟩, fun _ _ _ => rfl⟩

section RecordLists

variable {mkW : Value → List Byte → Instr} {mkR : ReadOpts → List Byte → Nat → Instr} {tag : Tag} {layout : Layout} {s : State}

theorem RunsRecordList.write_error (h : RunsRecordList mkW mkR tag layout s) {v : Value} {w : List Byte} {e : Err} (hv : v.wf = true)
    (he : writeRecordList tag layout v w = .error e) : exec (mkW v w) s = .next (fails e s) := by
  obtain ⟨op, hexec⟩ := h.write
  rw [hexec, he, writeOp_error hv]

theorem recordKindErrors_of_runs (h : RunsRecordList mkW mkR tag layout s) : RecordKindErrors mkW tag.toNat layout s := by
  intro good v rest w hwf hgood
  have herror {e : Err} (he : resolveRecord tag layout v = .error e) :
      exec (mkW (.list (Values.ofList (good.map .record ++ v :: rest))) w) s = .next (fails e s) :=
    h.write_error (v := .list _) hwf (writeRecordList_of_split hgood he w)
  refine ⟨fun hkind => herror (resolveRecord_of_wrongKind hkind layout), ?_⟩
  rintro m before f after rfl hsplit hbefore
  exact ⟨fun hmissing => herror (resolveRecord_of_split hsplit hbefore (kindError_of_missing hmissing)),
    fun x hx hkind => herror (resolveRecord_of_split hsplit hbefore (kindError_of_wrongKind hx hkind))⟩

theorem recordRangeErrors_of_runs (h : RunsRecordList mkW mkR tag layout s) : RecordRangeErrors mkW layout s := by
  intro good m rest w before n bits after k hwf hkinds hgood hsplit hbefore hk hout
  have hfirst : (layoutFields layout).findSome? (rangeError m) = some (.valueOutOfRange bits false k) := by
    rw [hsplit]
    exact findSome?_of_split (fun f hf => rangeError_of_fits (hbefore f hf)) (rangeError_of_out hk hout)
  have hall : (good ++ m :: rest).findSome? (fun m => (layoutFields layout).findSome? (rangeError m)) =
      some (.valueOutOfRange bits false k) :=
    findSome?_of_split (fun r hr => findSome?_rangeError_of_fits (hgood r hr)) hfirst
  exact h.write_error (v := .list _) hwf (by rw [writeRecordList_eq hkinds, hall, Option.elim_some])

theorem recordUnderruns_of_runs (h : RunsRecordList mkW mkR tag layout s) : RecordUnderruns mkR layout s := by
  intro o b p k hlength hk hlayout hshort
  obtain ⟨e, before, i, after, he, hsplit, hbefore, hend, hread⟩ := readMany_readRecord_of_lt hlayout hk hshort
  refine ⟨e, before, i, after, he, hsplit, hbefore, hend, ?_⟩
  rw [h.read, readCounted_of_length hlength, readList, hread, readOp_error]

theorem recordErrors_of_runs {layout : State → Layout} (h : ∀ s, RunsRecordList mkW mkR tag (layout s) s) :
    RecordErrors mkW mkR tag.toNat layout := by
  intro s
  refine ⟨?_, recordKindErrors_of_runs (h s), recordRangeErrors_of_runs (h s), ?_, ?_, recordUnderruns_of_runs (h s)⟩
  · intro v w hv hkind
    exact (h s).write_error hv (by rw [writeRecordList, asList_of_wrongKind hkind])
  · intro o b p hlength
    rw [(h s).read, readCounted_of_missing hlength, readOp_error]
  · intro o b p hlength
    rw [(h s).read, readCounted_of_length hlength]
    rfl

end RecordLists

/-- Settles O23: the four lists run one write and one read, with their own tag and layout. -/
theorem recordListErrors : Obligations.RecordListErrors :=
  ⟨recordErrors_of_runs routing_runs, recordErrors_of_runs bind_runs, recordErrors_of_runs neighbor_runs,
    recordErrors_of_runs network_runs⟩

end Sys2Proof.Proofs
end

section
/-! PROOFS. The record lists with well-formed layouts (spec/41_parameter_codec.md R134 to R138, R166 to R173). An item's bytes are read as the values that
the record has under the item's names; a record of the layout's fields alone is therefore read back as it was, and so are the lists of the default
layouts and the neighbor-table record. -/

namespace Sys2Proof.Proofs

open Sys2Proof Sys2Proof.Machine Sys2Proof.Claim

/-! ## The names of a layout -/

theorem fieldsOf_names (i : LayoutItem) : (fieldsOf i).map (·.1) = i.names := by
  cases i with
  | u8 | u16 | eui => rfl
  | packed fs =>
    rw [fieldsOf, List.map_map]
    rfl

theorem layoutFields_names (l : Layout) : (layoutFields l).map (·.1) = l.names := by
  rw [layoutFields_eq, List.map_flatMap, Layout.names]
  simp only [fieldsOf_names]

theorem layout_wf_iff (l : Layout) :
    l.wf = true ↔ l.names.Nodup ∧ ∀ fs, LayoutItem.packed fs ∈ l → BitField.packedOk fs = true := by
  rw [Layout.wf, Bool.and_eq_true, decide_eq_true_iff, List.all_eq_true]
  refine and_congr_right fun _ => ⟨fun h fs hfs => h _ hfs, fun h i hi => ?_⟩
  cases i with
  | packed fs => exact h fs hi
  | u8 | u16 | eui => rfl

/-! ## Fields in their kinds and ranges -/

section Fits

variable {m : Fields} {layout : Layout}

theorem numberAt_range {n : String} {bits : Nat} (h : rangeFits m (n, some bits) = true) :
    0 ≤ numberAt m n ∧ numberAt m n < 2 ^ bits := (rangeError_eq_none_iff m n bits).1 (rangeError_of_fits h)

theorem recordFits_item (h : recordFits layout m) {i : LayoutItem} (hi : i ∈ layout) :
    ∀ f ∈ fieldsOf i, fieldFits m f = true ∧ rangeFits m f = true := fun f hf => h.2 f (fieldsOf_subset hi f hf)

theorem length_itemBytes {i : LayoutItem} (h : ∀ f ∈ fieldsOf i, fieldFits m f = true) : (itemBytes m i).length = i.size := by
  cases i with
  | u8 | u16 => exact length_intBytes ..
  | eui name =>
    obtain ⟨v, hv, hkind⟩ := (Option.any_eq_true ..).1 (h _ (List.mem_singleton_self _))
    cases v with
    | eui t =>
      simp only [itemBytes, hv]
      rfl
    | int | nwk | bytes | list | record => cases hkind
  | packed fs => rfl

theorem length_elementBytes (h : ∀ i ∈ layout, ∀ f ∈ fieldsOf i, fieldFits m f = true) :
    (layout.flatMap (itemBytes m)).length = layout.size := by
  rw [List.length_flatMap, Layout.size]
  exact congrArg List.sum (List.map_congr_left fun i hi => length_itemBytes (h i hi))

end Fits

/-! ## Packed fields read back (R134) -/

theorem packedOk_cons {f : BitField} {fs : List BitField} (h : BitField.packedOk (f :: fs) = true) :
    (f.lo ≤ f.hi ∧ f.hi < 8) ∧ (∀ g ∈ fs, g.hi < f.lo ∨ f.hi < g.lo) ∧ BitField.packedOk fs = true := by
  rw [BitField.packedOk, Bool.and_eq_true, Bool.and_eq_true, decide_eq_true_iff, List.all_eq_true] at h
  obtain ⟨⟨hf, hfs⟩, hrest⟩ := h
  exact ⟨hf, fun g hg => of_decide_eq_true (hfs g hg), hrest⟩

/-- Two fields of a well-formed packed byte that cover one bit are the same. -/
theorem eq_of_cover {fs : List BitField} (h : BitField.packedOk fs = true) {f g : BitField} (hf : f ∈ fs) (hg : g ∈ fs) {j : Nat}
    (hfj : f.lo ≤ j ∧ j ≤ f.hi) (hgj : g.lo ≤ j ∧ j ≤ g.hi) : f = g := by
  induction fs with
  | nil => cases hf
  | cons d fs ih =>
    obtain ⟨-, hdisjoint, hrest⟩ := packedOk_cons h
    rcases List.mem_cons.1 hf with rfl | hf' <;> rcases List.mem_cons.1 hg with rfl | hg'
    · rfl
    · have hsep := hdisjoint g hg'
      omega
    · have hsep := hdisjoint f hf'
      omega
    · exact ih hrest hf' hg'

theorem hi_lt_of_packedOk {fs : List BitField} (h : BitField.packedOk fs = true) {f : BitField} (hf : f ∈ fs) : f.hi < 8 := by
  induction fs with
  | nil => cases hf
  | cons d fs ih =>
    obtain ⟨⟨-, hlt⟩, -, hrest⟩ := packedOk_cons h
    rcases List.mem_cons.1 hf with rfl | hf
    · exact hlt
    · exact ih hrest hf

/-- The bits of a field in the packed byte are those of its number. -/
theorem packedBit_of_mem {fs : List BitField} (h : BitField.packedOk fs = true) {f : BitField} (hf : f ∈ fs) (m : Fields) {j : Nat}
    (hj : f.lo ≤ j ∧ j ≤ f.hi) : packedBit fs m j = (numberAt m f.name).toNat.testBit (j - f.lo) := by
  rw [Bool.eq_iff_iff, packedBit, List.any_eq_true]
  constructor
  · rintro ⟨g, hg, hbit⟩
    rw [Bool.and_eq_true, decide_eq_true_iff] at hbit
    obtain ⟨hcover, hbit⟩ := hbit
    exact eq_of_cover h hg hf hcover hj ▸ hbit
  · exact fun hbit => ⟨f, hf, by rw [decide_eq_true hj, hbit]; rfl⟩

theorem packedField_eq {fs : List BitField} (h : BitField.packedOk fs = true) {f : BitField} (hf : f ∈ fs) {m : Fields}
    (hrange : 0 ≤ numberAt m f.name ∧ numberAt m f.name < 2 ^ (f.hi + 1 - f.lo)) :
    ((natOf (itemBytes m (.packed fs)) / 2 ^ f.lo % 2 ^ (f.hi + 1 - f.lo) : Nat) : Int) = numberAt m f.name := by
  obtain ⟨hlo, hlt⟩ := hrange
  obtain ⟨hsum, hbits⟩ := sum_range_bits (packedBit fs m) 8
  have hbyte : natOf (itemBytes m (.packed fs)) = ((List.range 8).map fun j => if packedBit fs m j then 2 ^ j else 0).sum := by
    simp only [itemBytes, natOf, List.zipIdx_cons, List.zipIdx_nil, List.map_cons, List.map_nil, List.sum_singleton, pow_zero, mul_one,
      BitVec.toNat_ofNat]
    exact Nat.mod_eq_of_lt hsum
  suffices natOf (itemBytes m (.packed fs)) / 2 ^ f.lo % 2 ^ (f.hi + 1 - f.lo) = (numberAt m f.name).toNat by
    rw [this, Int.toNat_of_nonneg hlo]
  rw [hbyte]
  apply Nat.eq_of_testBit_eq
  intro t
  rw [Nat.testBit_mod_two_pow, Nat.testBit_div_two_pow]
  by_cases ht : t < f.hi + 1 - f.lo
  · have hhi := hi_lt_of_packedOk h hf
    rw [decide_eq_true ht, Bool.true_and, hbits _ (by omega), packedBit_of_mem h hf m (by omega), Nat.add_sub_cancel]
  · have hsmall : (numberAt m f.name).toNat < 2 ^ t := by
      have hpow : 2 ^ (f.hi + 1 - f.lo) ≤ 2 ^ t := Nat.pow_le_pow_right Nat.two_pos (by omega)
      have hcast : (numberAt m f.name).toNat < 2 ^ (f.hi + 1 - f.lo) := by
        zify
        rwa [Int.toNat_of_nonneg hlo]
      omega
    rw [decide_eq_false ht, Bool.false_and, Nat.testBit_lt_two_pow hsmall]

/-! ## Items and elements read back (R134) -/

theorem mem_toList_of_get? {m : Fields} {k : String} {v : Value} (h : m.get? k = some v) : (k, v) ∈ m.toList := by
  match m with
  | .nil => cases h
  | .cons j u m =>
    rw [Fields.toList]
    by_cases hk : k = j
    · subst hk
      rw [fields_get?_cons_self, Option.some.injEq] at h
      exact h ▸ List.mem_cons_self
    · rw [fields_get?_cons_of_ne hk] at h
      exact List.mem_cons_of_mem _ (mem_toList_of_get? h)

section Plain

variable {layout : Layout} {m : Fields}

/-- R134: a plain record has names of the layout only, and no network address. -/
theorem recordPlain_get? (h : recordPlain layout m = true) {k : String} {v : Value} (hv : m.get? k = some v) :
    k ∈ layout.names ∧ ∀ a, v ≠ .nwk a := by
  have hentry := List.all_eq_true.1 h _ (mem_toList_of_get? hv)
  rw [Bool.and_eq_true, List.contains_iff_mem] at hentry
  obtain ⟨hname, hvalue⟩ := hentry
  refine ⟨hname, ?_⟩
  rintro a rfl
  cases hvalue

/-- A number of a plain record is an integer. -/
theorem get?_of_plain (hplain : recordPlain layout m = true) {n : String} {bits : Nat} (hfits : fieldFits m (n, some bits) = true) :
    m.get? n = some (.int (numberAt m n)) := by
  obtain ⟨v, hv, hkind⟩ := (Option.any_eq_true ..).1 hfits
  have hv' : m.get? n = some v := hv
  obtain ⟨-, hnwk⟩ := recordPlain_get? hplain hv'
  cases v with
  | int k => rw [hv', numberAt, hv']; rfl
  | nwk a => exact absurd rfl (hnwk a)
  | eui | bytes | list | record => cases hkind

theorem natOf_intBytes_numberAt {k : Nat} {n : String} (h : 0 ≤ numberAt m n ∧ numberAt m n < 2 ^ (8 * k)) :
    (natOf (Claim.intBytes k (numberAt m n)) : Int) = numberAt m n := by
  obtain ⟨hlo, hhi⟩ := h
  have hpow : (2 : Int) ^ (8 * k) = 256 ^ k := by rw [pow_mul]; rfl
  rw [hpow] at hhi
  rw [natOf_intBytes, Int.emod_eq_of_lt hlo hhi]

/-- R134: an item's bytes are read as what the record has under the item's names. -/
theorem itemFields_itemBytes (hplain : recordPlain layout m = true) {i : LayoutItem}
    (hfits : ∀ f ∈ fieldsOf i, fieldFits m f = true ∧ rangeFits m f = true)
    (hpacked : ∀ fs, i = .packed fs → BitField.packedOk fs = true) :
    (itemFields (itemBytes m i) i).map (·.1) = i.names ∧ ∀ e ∈ itemFields (itemBytes m i) i, m.get? e.1 = some e.2 := by
  cases i with
  | u8 n =>
    obtain ⟨hkind, hrange⟩ := hfits _ (List.mem_singleton_self _)
    have hvalue : (natOf (itemBytes m (.u8 n)) : Int) = numberAt m n := natOf_intBytes_numberAt (k := 1) (numberAt_range hrange)
    rw [itemFields, hvalue, List.forall_mem_singleton]
    exact ⟨rfl, get?_of_plain hplain hkind⟩
  | u16 n =>
    obtain ⟨hkind, hrange⟩ := hfits _ (List.mem_singleton_self _)
    have hvalue : (natOf (itemBytes m (.u16 n)) : Int) = numberAt m n := natOf_intBytes_numberAt (k := 2) (numberAt_range hrange)
    rw [itemFields, hvalue, List.forall_mem_singleton]
    exact ⟨rfl, get?_of_plain hplain hkind⟩
  | eui n =>
    obtain ⟨hkind, -⟩ := hfits _ (List.mem_singleton_self _)
    obtain ⟨v, hv, hkind⟩ := (Option.any_eq_true ..).1 hkind
    cases v with
    | eui t =>
      have hbytes : itemBytes m (.eui n) = eight t := by simp only [itemBytes, hv]
      have hfields : itemFields (eight t) (.eui n) = [(n, .eui t)] := rfl
      rw [hbytes, hfields, List.forall_mem_singleton]
      exact ⟨rfl, hv⟩
    | int | nwk | bytes | list | record => cases hkind
  | packed fs =>
    have hok := hpacked fs rfl
    rw [itemFields, List.map_map]
    refine ⟨rfl, fun e he => ?_⟩
    obtain ⟨f, hf, rfl⟩ := List.mem_map.1 he
    obtain ⟨hkind, hrange⟩ := hfits _ (List.mem_map_of_mem hf)
    rw [packedField_eq hok hf (numberAt_range hrange)]
    exact get?_of_plain hplain hkind

theorem elementFields_elementBytes {l : Layout} (h : ∀ i ∈ l, ∀ f ∈ fieldsOf i, fieldFits m f = true) (tail : List Byte) :
    elementFields l (l.flatMap (itemBytes m) ++ tail) = l.flatMap fun i => itemFields (itemBytes m i) i := by
  induction l with
  | nil => rfl
  | cons i l ih =>
    obtain ⟨hi, hl⟩ := List.forall_mem_cons.1 h
    have hlength := length_itemBytes hi
    rw [List.flatMap_cons, List.flatMap_cons, List.append_assoc, elementFields, ← hlength, List.take_left, List.drop_left, ih hl]

/-- R134: a plain record in its kinds and ranges is read back from its bytes. -/
theorem ofList_elementFields (hwf : layout.wf = true) (hfits : recordFits layout m) (hplain : recordPlain layout m = true) :
    Fields.ofList (elementFields layout (layout.flatMap (itemBytes m))) = m := by
  obtain ⟨hnodup, hpacked⟩ := (layout_wf_iff layout).1 hwf
  have hitem : ∀ i ∈ layout, (itemFields (itemBytes m i) i).map (·.1) = i.names ∧
      ∀ e ∈ itemFields (itemBytes m i) i, m.get? e.1 = some e.2 := fun i hi =>
    itemFields_itemBytes hplain (recordFits_item hfits hi) fun fs h => hpacked fs (h ▸ hi)
  have hfields := elementFields_elementBytes (fun i hi f hf => (recordFits_item hfits hi f hf).1) []
  rw [List.append_nil] at hfields
  have hvalues : ∀ e ∈ elementFields layout (layout.flatMap (itemBytes m)), m.get? e.1 = some e.2 := by
    intro e he
    rw [hfields] at he
    obtain ⟨i, hi, he⟩ := List.mem_flatMap.1 he
    exact (hitem i hi).2 e he
  have hnames : (elementFields layout (layout.flatMap (itemBytes m))).map (·.1) = layout.names := by
    rw [hfields, List.map_flatMap, Layout.names]
    exact List.flatMap_congr fun i hi => (hitem i hi).1
  generalize elementFields layout (layout.flatMap (itemBytes m)) = l at hvalues hnames
  obtain ⟨hm, -⟩ := hfits
  refine fields_ext (wf_setAll (fun e he => wf_of_get? hm (hvalues e he)) rfl) hm fun k => ?_
  by_cases hk : k ∈ l.map (·.1)
  · obtain ⟨e, he, rfl⟩ := List.mem_map.1 hk
    rw [hvalues e he]
    exact get?_setAll_of_mem (hnames ▸ hnodup) he .nil
  · have habsent : m.get? k = none := by
      cases hget : m.get? k with
      | none => rfl
      | some v => exact absurd (hnames ▸ (recordPlain_get? hplain hget).1) hk
    rw [habsent]
    exact get?_setAll_of_not_mem hk .nil

end Plain

/-! ## Lists of records (R134, R166 to R173) -/

section Lists

variable {mkW : Value → List Byte → Instr} {mkR : ReadOpts → List Byte → Nat → Instr} {tag : Tag} {layout : Layout} {s : State}

theorem RunsRecordList.write_ok (h : RunsRecordList mkW mkR tag layout s) {ms : List Fields} (hfits : ∀ m ∈ ms, recordFits layout m)
    (w : List Byte) : exec (mkW (.list (Values.ofList (ms.map .record))) w) s =
      .next (gives (.bytes (w ++ ms.flatMap (fun m => layout.flatMap (itemBytes m)))) s) := by
  have hwf : (Value.list (Values.ofList (ms.map .record))).wf = true := (values_wf_ofList_iff _).2 fun v hv => by
    obtain ⟨m, hm, rfl⟩ := List.mem_map.1 hv
    exact (hfits m hm).1
  have hrange : ms.findSome? (fun m => (layoutFields layout).findSome? (rangeError m)) = none :=
    List.findSome?_eq_none_iff.2 fun m hm => findSome?_rangeError_of_fits fun f hf => ((hfits m hm).2 f hf).2
  obtain ⟨op, hexec⟩ := h.write
  rw [hexec, writeRecordList_eq fun m hm f hf => ((hfits m hm).2 f hf).1, hrange, Option.elim_none, writeOp_ok hwf]

theorem RunsRecordList.read_ok (h : RunsRecordList mkW mkR tag layout s) {o : ReadOpts} {b : List Byte} {p k : Nat}
    (hlength : o.length = some k) (hle : p + k * layout.size ≤ b.length) :
    exec (mkR o b p) s =
      .next (gives (.read (.list (Values.ofList ((List.range k).map (fun j =>
        .record (Fields.ofList (elementFields layout (slice b (p + j * layout.size) layout.size))))))) (p + k * layout.size)) s) := by
  have hread : ∀ j < k, readRecord layout b (p + layout.size * j) =
      .ok (.record (Fields.ofList (elementFields layout (slice b (p + j * layout.size) layout.size))), p + layout.size * (j + 1)) := by
    intro j hj
    have hplace : (j + 1) * layout.size ≤ k * layout.size := Nat.mul_le_mul_right _ hj
    rw [Nat.mul_succ, ← Nat.add_assoc, Nat.mul_comm, readRecord_of_le (by rw [Nat.succ_mul] at hplace; omega)]
  rw [h.read, readCounted_of_length hlength, readList, readMany_of_forall hread, readOp_ok, Nat.mul_comm k]

/-- The records written are read back where they stand. -/
theorem readMany_elementBytes (hwf : layout.wf = true) {ms : List Fields}
    (hms : ∀ m ∈ ms, recordFits layout m ∧ recordPlain layout m = true) (w tail : List Byte) :
    readMany (readRecord layout (w ++ ms.flatMap (fun m => layout.flatMap (itemBytes m)) ++ tail)) ms.length w.length =
      .ok (Values.ofList (ms.map .record), w.length + (ms.flatMap (fun m => layout.flatMap (itemBytes m))).length) := by
  induction ms generalizing w with
  | nil => rfl
  | cons m ms ih =>
    obtain ⟨⟨hfits, hplain⟩, hms⟩ := List.forall_mem_cons.1 hms
    have hlength : (layout.flatMap (itemBytes m)).length = layout.size :=
      length_elementBytes fun i hi f hf => (recordFits_item hfits hi f hf).1
    have hrest := ih hms (w ++ layout.flatMap (itemBytes m))
    have hbuf : w ++ (layout.flatMap (itemBytes m) ++ ms.flatMap fun m => layout.flatMap (itemBytes m)) ++ tail =
        w ++ layout.flatMap (itemBytes m) ++ (ms.flatMap fun m => layout.flatMap (itemBytes m)) ++ tail := by
      simp only [List.append_assoc]
    rw [List.length_append, hlength] at hrest
    rw [List.flatMap_cons, hbuf, List.length_cons, List.map_cons, List.length_append, hlength]
    have hslice := slice_append w (layout.flatMap (itemBytes m)) ((ms.flatMap fun m => layout.flatMap (itemBytes m)) ++ tail)
    rw [hlength, ← List.append_assoc] at hslice
    have hhead := readRecord_of_le (layout := layout) (pos := w.length)
      (b := w ++ layout.flatMap (itemBytes m) ++ (ms.flatMap fun m => layout.flatMap (itemBytes m)) ++ tail)
      (by simp only [List.length_append, hlength]; omega)
    rw [hslice, ofList_elementFields hwf hfits hplain] at hhead
    simp only [readMany, hhead, hrest, Values.ofList, Nat.add_assoc]

theorem RunsRecordList.writesAndReads (h : RunsRecordList mkW mkR tag layout s) (hwf : layout.wf = true) {ms : List Fields}
    (hms : ∀ m ∈ ms, recordFits layout m ∧ recordPlain layout m = true) :
    WritesAndReads mkW mkR (ms.map .record) (ms.flatMap fun m => layout.flatMap (itemBytes m)) s := by
  refine ⟨fun w => h.write_ok (fun m hm => (hms m hm).1) w, fun w tail o hlength => ?_⟩
  rw [List.length_map] at hlength
  rw [h.read, readCounted_of_length hlength, readList, readMany_elementBytes hwf hms, readOp_ok]

theorem RunsRecordList.followsLayout (h : RunsRecordList mkW mkR tag layout s) (hwf : layout.wf = true) :
    RecordsFollowLayout mkW mkR layout s :=
  ⟨fun _ w hfits => h.write_ok hfits w, fun _ _ _ _ hlength hle => h.read_ok hlength hle, fun _ hms => h.writesAndReads hwf hms⟩

end Lists

end Sys2Proof.Proofs
end

section
/-! PROOFS. The default layouts and the neighbor-table record (spec/41_parameter_codec.md R135 to R138): their records are records of the layout's
fields, in their kinds and ranges, so what holds of every well-formed layout holds of them. -/

namespace Sys2Proof.Proofs

open Sys2Proof Sys2Proof.Machine Sys2Proof.Claim

/-! ## Records given as lists of fields -/

theorem mem_toList_set {e : String × Value} {k : String} {v : Value} {m : Fields} (h : e ∈ (m.set k v).toList) :
    e = (k, v) ∨ e ∈ m.toList := by
  match m with
  | .nil => exact .inl (List.mem_singleton.1 h)
  | .cons j u m =>
    unfold Fields.set at h
    split at h
    · exact List.mem_cons.1 h
    · split at h
      · rcases List.mem_cons.1 h with rfl | h
        · exact .inl rfl
        · exact .inr (List.mem_cons_of_mem _ h)
      · rcases List.mem_cons.1 h with rfl | h
        · exact .inr List.mem_cons_self
        · exact (mem_toList_set h).imp_right (List.mem_cons_of_mem _)

theorem mem_toList_setAll {e : String × Value} {l : List (String × Value)} {m : Fields} (h : e ∈ (setAll l m).toList) :
    e ∈ l ∨ e ∈ m.toList := by
  induction l generalizing m with
  | nil => exact .inr h
  | cons d l ih =>
    rcases ih h with hl | hm
    · exact .inl (List.mem_cons_of_mem _ hl)
    · rcases mem_toList_set hm with rfl | hm
      · exact .inl List.mem_cons_self
      · exact .inr hm

/-- R134: a plain integer in the field's range, or an identifier where the field is one. -/
def plainFits : Option Nat → Value → Bool
  | some bits, .int n => decide (0 ≤ n ∧ n < 2 ^ bits)
  | none, .eui _ => true
  | _, _ => false

theorem plainFits_bitVec {k : Nat} (x : BitVec k) : plainFits (some k) (.int x.toNat) = true :=
  decide_eq_true ⟨Int.natCast_nonneg _, by exact_mod_cast x.isLt⟩

section PlainFits

variable {m : Fields} {n : String} {bits : Option Nat} {v : Value}

theorem fits_of_plainFits (hv : m.get? n = some v) (h : plainFits bits v = true) :
    fieldFits m (n, bits) = true ∧ rangeFits m (n, bits) = true := by
  unfold plainFits at h
  split at h
  · simpa [fieldFits, rangeFits, hv, kindFits, number] using h
  · simp [fieldFits, rangeFits, hv, kindFits]
  · cases h

theorem wf_of_plainFits (h : plainFits bits v = true) : v.wf = true ∧ ∀ a, v ≠ .nwk a := by
  unfold plainFits at h
  split at h
  · exact ⟨rfl, nofun⟩
  · exact ⟨rfl, nofun⟩
  · cases h

end PlainFits

/-- A list of fields that are the layout's, each once and in its kind and range, gives such a record. -/
theorem record_ofList {layout : Layout} {l : List (String × Value)} (hwf : layout.wf = true) (hnodup : (l.map (·.1)).Nodup)
    (hnames : ∀ k ∈ layout.names, k ∈ l.map (·.1))
    (hl : ∀ e ∈ l, ∃ bits, (e.1, bits) ∈ layoutFields layout ∧ plainFits bits e.2 = true) :
    recordFits layout (Fields.ofList l) ∧ recordPlain layout (Fields.ofList l) = true := by
  have hlayout : ((layoutFields layout).map (·.1)).Nodup := by
    rw [layoutFields_names]
    exact ((layout_wf_iff layout).1 hwf).1
  have hvalues : ∀ e ∈ l, e.2.wf = true ∧ ∀ a, e.2 ≠ .nwk a := fun e he => by
    obtain ⟨bits, -, hfits⟩ := hl e he
    exact wf_of_plainFits hfits
  refine ⟨⟨wf_setAll (fun e he => (hvalues e he).1) rfl, ?_⟩, ?_⟩
  · intro f hf
    have hname : f.1 ∈ layout.names := layoutFields_names layout ▸ List.mem_map_of_mem hf
    obtain ⟨e, he, hkey⟩ := List.mem_map.1 (hnames f.1 hname)
    obtain ⟨bits, hbits, hfits⟩ := hl e he
    obtain rfl : (e.1, bits) = f := List.inj_on_of_nodup_map hlayout hbits hf hkey
    exact fits_of_plainFits (get?_setAll_of_mem hnodup he .nil) hfits
  · rw [recordPlain, List.all_eq_true]
    intro e he
    have he' : e ∈ l := (mem_toList_setAll he).resolve_right List.not_mem_nil
    obtain ⟨bits, hbits, -⟩ := hl e he'
    obtain ⟨-, hnwk⟩ := hvalues e he'
    have hname : layout.names.contains e.1 = true := by
      rw [List.contains_iff_mem, ← layoutFields_names]
      exact List.mem_map_of_mem hbits
    rw [hname, Bool.true_and]
    split
    next a ha => exact absurd ha (hnwk a)
    · rfl

/-! ## Bytes of items -/

section Bytes

variable {m : Fields} {n : String}

theorem numberAt_of_int {k : Int} (h : m.get? n = some (.int k)) : numberAt m n = k := by
  rw [numberAt, h]
  rfl

theorem itemBytes_u8 {a : Byte} (h : m.get? n = some (.int a.toNat)) : itemBytes m (.u8 n) = [a] := by
  rw [itemBytes, numberAt_of_int h, intBytes_byte]

theorem itemBytes_u16 {x : BitVec 16} (h : m.get? n = some (.int x.toNat)) : itemBytes m (.u16 n) = two x := by
  rw [itemBytes, numberAt_of_int h]
  simp only [Claim.intBytes, ofInt_ediv_pow]
  rfl

theorem itemBytes_eui {t : Eui} (h : m.get? n = some (.eui t)) : itemBytes m (.eui n) = eight t := by
  simp only [itemBytes, h]

/-- R137: a byte of two fields of four bits. -/
theorem itemBytes_nibbles {n' : String} {x y : BitVec 4} (hx : m.get? n = some (.int x.toNat)) (hy : m.get? n' = some (.int y.toNat)) :
    itemBytes m (.packed [⟨n, 3, 0⟩, ⟨n', 7, 4⟩]) = [y ++ x] := by
  refine congrArg (fun b => [b]) (BitVec.eq_of_getLsbD_eq fun j hj => ?_)
  obtain ⟨-, hbits⟩ := sum_range_bits (packedBit [⟨n, 3, 0⟩, ⟨n', 7, 4⟩] m) 8
  rw [BitVec.getLsbD_ofNat, decide_eq_true hj, Bool.true_and, hbits j hj, BitVec.getLsbD_append]
  simp only [packedBit, List.any_cons, List.any_nil, numberAt_of_int hx, numberAt_of_int hy, Int.toNat_natCast, Bool.or_false]
  by_cases hlow : j < 4
  · have hcover : (0 ≤ j ∧ j ≤ 3) ∧ ¬ (4 ≤ j ∧ j ≤ 7) := by omega
    obtain ⟨hfirst, hsecond⟩ := hcover
    simp only [hfirst, hsecond, hlow, decide_false, Bool.false_and, Bool.or_false, Nat.sub_zero]
    rfl
  · have hcover : ¬ (0 ≤ j ∧ j ≤ 3) ∧ (4 ≤ j ∧ j ≤ 7) := by omega
    obtain ⟨hfirst, hsecond⟩ := hcover
    simp only [hfirst, hsecond, hlow, decide_false, Bool.false_and, Bool.false_or]
    rfl

end Bytes

/-! ## The default layouts (R135 to R137) -/

/-- R135: the fields of a routing-table element. -/
def routeFields (r : Route) : List (String × Value) :=
  [("destNwkAddr", .int r.dest.toNat), ("routeStatus", .int r.status.toNat), ("nextHopNwkAddr", .int r.next.toNat)]

/-- R136: the fields of a bind-table element. -/
def bindFields (b : Bind) : List (String × Value) :=
  [("srcAddr", .eui b.src), ("srcEp", .int b.srcEp.toNat), ("clusterId", .int b.cluster.toNat), ("dstAddrMode", .int b.mode.toNat),
    ("dstAddr", .eui b.dst), ("dstEp", .int b.dstEp.toNat)]

/-- R137: the fields of a network element. -/
def netFields (n : Net) : List (String × Value) :=
  [("neightborPanId", .int n.pan.toNat), ("logicalChannel", .int n.channel.toNat), ("stackProfile", .int n.profile.toNat),
    ("zigbeeVersion", .int n.version.toNat), ("beaconOrder", .int n.beacon.toNat), ("superFrameOrder", .int n.superFrame.toNat),
    ("permitJoin", .int n.permit.toNat)]

section InOrder

variable {layout : Layout} {l : List (String × Value)}

/-- R134: the fields of a list are those of the layout, in its order. -/
abbrev FieldsInOrder (layout : Layout) (l : List (String × Value)) : Prop :=
  List.Forall₂ (fun f e => f.1 = e.1 ∧ plainFits f.2 e.2 = true) (layoutFields layout) l

theorem FieldsInOrder.names (h : FieldsInOrder layout l) : l.map (·.1) = layout.names := by
  rw [← layoutFields_names]
  unfold FieldsInOrder at h
  generalize layoutFields layout = fs at h ⊢
  induction h with
  | nil => rfl
  | cons hhead _ ih => rw [List.map_cons, List.map_cons, ih, hhead.1]

theorem FieldsInOrder.record (h : FieldsInOrder layout l) (hwf : layout.wf = true) :
    recordFits layout (Fields.ofList l) ∧ recordPlain layout (Fields.ofList l) = true := by
  have hnodup : (l.map (·.1)).Nodup := h.names ▸ ((layout_wf_iff layout).1 hwf).1
  refine record_ofList hwf hnodup (fun k hk => h.names ▸ hk) fun e he => ?_
  obtain ⟨i, hi, rfl⟩ := List.getElem_of_mem he
  obtain ⟨hlength, hget⟩ := List.forall₂_iff_get.1 h
  obtain ⟨hname, hfits⟩ := hget i (hlength ▸ hi) hi
  exact ⟨_, hname ▸ List.get_mem _ _, hfits⟩

/-- Elements that are records of the layout's fields, with these bytes, are written and read back. -/
theorem RunsRecordList.elements {mkW : Value → List Byte → Instr} {mkR : ReadOpts → List Byte → Nat → Instr} {tag : Tag} {s : State}
    (h : RunsRecordList mkW mkR tag layout s) (hwf : layout.wf = true) {α : Type} {fields : α → List (String × Value)}
    {bytes : α → List Byte} (hfields : ∀ x, FieldsInOrder layout (fields x))
    (hbytes : ∀ x (m : Fields), (∀ e ∈ fields x, m.get? e.1 = some e.2) → layout.flatMap (itemBytes m) = bytes x) (l : List α) :
    WritesAndReads mkW mkR (l.map fun x => .record (Fields.ofList (fields x))) (l.flatMap bytes) s := by
  have hms : ∀ m ∈ l.map fun x => Fields.ofList (fields x), recordFits layout m ∧ recordPlain layout m = true := by
    intro m hm
    obtain ⟨x, -, rfl⟩ := List.mem_map.1 hm
    exact (hfields x).record hwf
  have hwritten := h.writesAndReads hwf hms
  have helement (x : α) : layout.flatMap (itemBytes (Fields.ofList (fields x))) = bytes x :=
    hbytes x _ fun e he => get?_setAll_of_mem ((hfields x).names ▸ ((layout_wf_iff layout).1 hwf).1) he .nil
  rw [List.map_map, List.flatMap_map] at hwritten
  simp only [helement] at hwritten
  exact hwritten

end InOrder

theorem routeFields_inOrder (r : Route) : FieldsInOrder Config.defaultLayoutRouting (routeFields r) :=
  .cons ⟨rfl, plainFits_bitVec r.dest⟩ (.cons ⟨rfl, plainFits_bitVec r.status⟩ (.cons ⟨rfl, plainFits_bitVec r.next⟩ .nil))

theorem bindFields_inOrder (b : Bind) : FieldsInOrder Config.defaultLayoutBind (bindFields b) :=
  .cons ⟨rfl, rfl⟩ (.cons ⟨rfl, plainFits_bitVec b.srcEp⟩ (.cons ⟨rfl, plainFits_bitVec b.cluster⟩ (.cons ⟨rfl, plainFits_bitVec b.mode⟩
    (.cons ⟨rfl, rfl⟩ (.cons ⟨rfl, plainFits_bitVec b.dstEp⟩ .nil)))))

theorem netFields_inOrder (n : Net) : FieldsInOrder Config.defaultLayoutNetwork (netFields n) :=
  .cons ⟨rfl, plainFits_bitVec n.pan⟩ (.cons ⟨rfl, plainFits_bitVec n.channel⟩ (.cons ⟨rfl, plainFits_bitVec n.profile⟩
    (.cons ⟨rfl, plainFits_bitVec n.version⟩ (.cons ⟨rfl, plainFits_bitVec n.beacon⟩ (.cons ⟨rfl, plainFits_bitVec n.superFrame⟩
      (.cons ⟨rfl, plainFits_bitVec n.permit⟩ .nil))))))

theorem routeBytes_eq (r : Route) (m : Fields) (h : ∀ e ∈ routeFields r, m.get? e.1 = some e.2) :
    Config.defaultLayoutRouting.flatMap (itemBytes m) = Route.bytes r := by
  simp only [routeFields, List.forall_mem_cons] at h
  obtain ⟨hdest, hstatus, hnext, -⟩ := h
  simp only [Config.defaultLayoutRouting, List.flatMap_cons, List.flatMap_nil, itemBytes_u16 hdest, itemBytes_u8 hstatus,
    itemBytes_u16 hnext]
  rfl

theorem bindBytes_eq (b : Bind) (m : Fields) (h : ∀ e ∈ bindFields b, m.get? e.1 = some e.2) :
    Config.defaultLayoutBind.flatMap (itemBytes m) = Bind.bytes b := by
  simp only [bindFields, List.forall_mem_cons] at h
  obtain ⟨hsrc, hsrcEp, hcluster, hmode, hdst, hdstEp, -⟩ := h
  simp only [Config.defaultLayoutBind, List.flatMap_cons, List.flatMap_nil, itemBytes_eui hsrc, itemBytes_u8 hsrcEp,
    itemBytes_u16 hcluster, itemBytes_u8 hmode, itemBytes_eui hdst, itemBytes_u8 hdstEp]
  rfl

theorem netBytes_eq (n : Net) (m : Fields) (h : ∀ e ∈ netFields n, m.get? e.1 = some e.2) :
    Config.defaultLayoutNetwork.flatMap (itemBytes m) = Net.bytes n := by
  simp only [netFields, List.forall_mem_cons] at h
  obtain ⟨hpan, hchannel, hprofile, hversion, hbeacon, hsuper, hpermit, -⟩ := h
  simp only [Config.defaultLayoutNetwork, List.flatMap_cons, List.flatMap_nil, itemBytes_u16 hpan, itemBytes_u8 hchannel,
    itemBytes_nibbles hprofile hversion, itemBytes_nibbles hbeacon hsuper, itemBytes_u8 hpermit]
  rfl

/-- Settles O22: the three default layouts are well formed, and their elements are records of their fields. -/
theorem defaultRecordListsRoundTrip : Obligations.DefaultRecordListsRoundTrip := by
  intro s
  refine ⟨fun hlayout => ?_, fun hlayout => ?_, fun hlayout => ?_⟩
  · exact (hlayout ▸ routing_runs s).elements (by decide) routeFields_inOrder routeBytes_eq
  · exact (hlayout ▸ bind_runs s).elements (by decide) bindFields_inOrder bindBytes_eq
  · exact (hlayout ▸ network_runs s).elements (by decide) netFields_inOrder netBytes_eq

/-! ## The neighbor-table record (R138) -/

/-- R138, the source's vector S5: its fields. -/
def neighborFieldList (extPanId extAddr : Eui) : List (String × Value) :=
  [("extPanId", .eui extPanId), ("extAddr", .eui extAddr), ("nwkAddr", .int 0xE961), ("deviceType", .int 1), ("rxOnWhenIdle", .int 2),
    ("relationship", .int 2), ("permitJoin", .int 2), ("depth", .int 255), ("lqi", .int 69)]

theorem neighborFieldList_names (extPanId extAddr : Eui) : (neighborFieldList extPanId extAddr).map (·.1) = Config.neighborFields := rfl

section Neighbor

variable {layout : Layout}

theorem mem_layoutFields_of_eui {n : String} (h : layout.contains (.eui n) = true) : (n, none) ∈ layoutFields layout :=
  fieldsOf_subset (List.contains_iff_mem.1 h) _ (List.mem_singleton_self _)

theorem mem_fieldsOf_of_bitsOf {n : String} {i : LayoutItem} {b : Nat} (h : i.bitsOf n = some b) : (n, some b) ∈ fieldsOf i := by
  cases i with
  | u8 k =>
    simp only [LayoutItem.bitsOf] at h
    split at h
    next hk =>
      cases h
      exact hk ▸ List.mem_singleton_self _
    · cases h
  | u16 k =>
    simp only [LayoutItem.bitsOf] at h
    split at h
    next hk =>
      cases h
      exact hk ▸ List.mem_singleton_self _
    · cases h
  | eui k => cases h
  | packed fs =>
    obtain ⟨f, hf, rfl⟩ := Option.map_eq_some_iff.1 h
    have hname : f.name = n := by simpa using List.find?_some hf
    exact List.mem_map.2 ⟨f, List.mem_of_find?_eq_some hf, by rw [hname]⟩

/-- A number that the layout has the bits for. -/
theorem exists_bits_of_hasBits {n : String} {k : Nat} (h : layout.hasBits n k = true) {v : Int} (hv : 0 ≤ v ∧ v < 2 ^ k) :
    ∃ bits, (n, bits) ∈ layoutFields layout ∧ plainFits bits (.int v) = true := by
  obtain ⟨i, hi, hbits⟩ := List.any_eq_true.1 h
  split at hbits
  next b hb =>
    have hle : k ≤ b := of_decide_eq_true hbits
    have hpow : (2 : Int) ^ k ≤ 2 ^ b := pow_le_pow_right₀ (by decide) hle
    exact ⟨some b, fieldsOf_subset hi _ (mem_fieldsOf_of_bitsOf hb), decide_eq_true ⟨hv.1, hv.2.trans_le hpow⟩⟩
  · cases hbits

/-- R138: a conforming layout has the nine names and no other. -/
theorem names_of_conforms (hlength : layout.names.length = 9)
    (hall : Config.neighborFields.all (fun n => layout.names.contains n) = true) : ∀ k ∈ layout.names, k ∈ Config.neighborFields := by
  have hsubset : Config.neighborFields ⊆ layout.names := fun k hk => List.contains_iff_mem.1 (List.all_eq_true.1 hall k hk)
  have hperm : Config.neighborFields.Perm layout.names :=
    (List.subperm_of_subset (by decide) hsubset).perm_of_length_le hlength.le
  exact fun k hk => hperm.mem_iff.2 hk

/-- R138: with a conforming layout, the record of vector S5 is a record of its fields, and takes 23 bytes. -/
theorem neighbor_fits (h : layout.neighborConforms = true) (extPanId extAddr : Eui) :
    layout.wf = true ∧ layout.size = 23 ∧ recordFits layout (Fields.ofList (neighborFieldList extPanId extAddr)) ∧
      recordPlain layout (Fields.ofList (neighborFieldList extPanId extAddr)) = true := by
  simp only [Layout.neighborConforms, Bool.and_eq_true, decide_eq_true_eq] at h
  obtain ⟨⟨⟨⟨⟨⟨⟨hsource, hnwk⟩, htype⟩, hrx⟩, hrelation⟩, hpermit⟩, hdepth⟩, hlqi⟩ := h
  obtain ⟨⟨⟨⟨⟨hwf, hsize⟩, hlength⟩, hall⟩, hpanId⟩, haddr⟩ := hsource
  refine ⟨hwf, hsize, record_ofList hwf (by rw [neighborFieldList_names]; decide) ?_ ?_⟩
  · rw [neighborFieldList_names]
    exact names_of_conforms hlength hall
  · simp only [neighborFieldList, List.forall_mem_cons]
    exact ⟨⟨none, mem_layoutFields_of_eui hpanId, rfl⟩, ⟨none, mem_layoutFields_of_eui haddr, rfl⟩,
      exists_bits_of_hasBits hnwk (by decide), exists_bits_of_hasBits htype (by decide), exists_bits_of_hasBits hrx (by decide),
      exists_bits_of_hasBits hrelation (by decide), exists_bits_of_hasBits hpermit (by decide),
      exists_bits_of_hasBits hdepth (by decide), exists_bits_of_hasBits hlqi (by decide), nofun⟩

end Neighbor

/-- Settles O24: a record's items, written and read, for every well-formed layout; the neighbor-table record is one such. -/
theorem recordListsFollowLayouts : Obligations.RecordListsFollowLayouts := by
  refine ⟨fun s => ⟨(routing_runs s).followsLayout, (bind_runs s).followsLayout, (neighbor_runs s).followsLayout,
    (network_runs s).followsLayout⟩, ?_⟩
  intro s extPanId extAddr hconforms
  obtain ⟨hwf, hsize, hfits, hplain⟩ := neighbor_fits hconforms extPanId extAddr
  have hwritten := (neighbor_runs s).writesAndReads hwf (ms := [Fields.ofList (neighborFieldList extPanId extAddr)])
    fun m hm => List.mem_singleton.1 hm ▸ ⟨hfits, hplain⟩
  rw [List.flatMap_singleton] at hwritten
  refine ⟨_, ?_, hwritten⟩
  rw [length_elementBytes fun i hi f hf => (recordFits_item hfits hi f hf).1, hsize]

end Sys2Proof.Proofs
end
